-- ==== Sys2Proof/Word.lean ====
section
/-! DEFINITION. The Word, the one unit of data, addresses and instructions (00_scope.md R9, R10, 40_datapath.md R75). -/

namespace Sys2Proof

/-- A Word: 16 bits (R9). u(w) is `w.toNat` and s(w) is `w.toInt` (R14); w⟨i⟩ is `w.getMsbD i` and w[n] is `w.getLsbD n` (R13). -/
abbrev Word := BitVec 16

end Sys2Proof
end

