-- ==== Sys2Proof/Syntax.lean ====
section
/-! DEFINITION. The instruction set as syntax: one constructor per row of spec/opcode_table.json (30_encoding.md). -/

namespace Sys2Proof

/-- The destination field d = (dA, dD, dM), instruction bits ⟨10⟩, ⟨11⟩, ⟨12⟩ (R65, R128). -/
structure Dest where
  dA : Bool
  dD : Bool
  dM : Bool
  deriving DecidableEq, Repr

/-- The jump field j = (jN, jZ, jP), instruction bits ⟨13⟩, ⟨14⟩, ⟨15⟩ (R65, R210). -/
structure Jump where
  jN : Bool
  jZ : Bool
  jP : Bool
  deriving DecidableEq, Repr

/-- The six ALU control bits, instruction bits ⟨4⟩ to ⟨9⟩ (R65, R81). -/
structure AluControl where
  zx : Bool
  nx : Bool
  zy : Bool
  ny : Bool
  f : Bool
  no : Bool
  deriving DecidableEq, Repr

/-- The 129 instructions of spec/opcode_table.json (R70).

`atV v` is the A-instruction `@v`, whose payload is the whole Word v (R62).
`c<zx nx zy ny f no>a<a>` is the C-instruction of that control code and that a bit; its fields are the unused bits u = I⟨1⟩I⟨2⟩
(R71), the destinations d and the jump j. LAWS.json maps each constructor to its mnemonic in the table. -/
inductive Instr where
  /-- `@v` (R117). -/
  | atV (v : Word)
  /-- `D&A`: And(x, y) (R146). -/
  | c000000a0 (u : BitVec 2) (d : Dest) (j : Jump)
  /-- `alu_c_000001_a_0`: Not(And(x, y)) (R147). -/
  | c000001a0 (u : BitVec 2) (d : Dest) (j : Jump)
  /-- `D+A`: x+y (R148). -/
  | c000010a0 (u : BitVec 2) (d : Dest) (j : Jump)
  /-- `alu_c_000011_a_0`: Not(x+y) = -x-y-1 (R149). -/
  | c000011a0 (u : BitVec 2) (d : Dest) (j : Jump)
  /-- `alu_c_000100_a_0`: And(x, Not(y)) (R150). -/
  | c000100a0 (u : BitVec 2) (d : Dest) (j : Jump)
  /-- `alu_c_000101_a_0`: Or(Not(x), y) (R151). -/
  | c000101a0 (u : BitVec 2) (d : Dest) (j : Jump)
  /-- `alu_c_000110_a_0`: x-y-1 (R152). -/
  | c000110a0 (u : BitVec 2) (d : Dest) (j : Jump)
  /-- `A-D`: y-x (R153). -/
  | c000111a0 (u : BitVec 2) (d : Dest) (j : Jump)
  /-- `alu_c_001000_a_0`: ZERO (0) (R154). -/
  | c001000a0 (u : BitVec 2) (d : Dest) (j : Jump)
  /-- `alu_c_001001_a_0`: ONES (-1) (R155). -/
  | c001001a0 (u : BitVec 2) (d : Dest) (j : Jump)
  /-- `alu_c_001010_a_0`: x (R156). -/
  | c001010a0 (u : BitVec 2) (d : Dest) (j : Jump)
  /-- `alu_c_001011_a_0`: Not(x) = -x-1 (R157). -/
  | c001011a0 (u : BitVec 2) (d : Dest) (j : Jump)
  /-- `D`: x (R158). -/
  | c001100a0 (u : BitVec 2) (d : Dest) (j : Jump)
  /-- `!D`: Not(x) = -x-1 (R159). -/
  | c001101a0 (u : BitVec 2) (d : Dest) (j : Jump)
  /-- `D-1`: x-1 (R160). -/
  | c001110a0 (u : BitVec 2) (d : Dest) (j : Jump)
  /-- `-D`: -x (R161). -/
  | c001111a0 (u : BitVec 2) (d : Dest) (j : Jump)
  /-- `alu_c_010000_a_0`: And(Not(x), y) (R162). -/
  | c010000a0 (u : BitVec 2) (d : Dest) (j : Jump)
  /-- `alu_c_010001_a_0`: Or(x, Not(y)) (R163). -/
  | c010001a0 (u : BitVec 2) (d : Dest) (j : Jump)
  /-- `alu_c_010010_a_0`: y-x-1 (R164). -/
  | c010010a0 (u : BitVec 2) (d : Dest) (j : Jump)
  /-- `D-A`: x-y (R165). -/
  | c010011a0 (u : BitVec 2) (d : Dest) (j : Jump)
  /-- `alu_c_010100_a_0`: Not(Or(x, y)) (R166). -/
  | c010100a0 (u : BitVec 2) (d : Dest) (j : Jump)
  /-- `D|A`: Or(x, y) (R167). -/
  | c010101a0 (u : BitVec 2) (d : Dest) (j : Jump)
  /-- `alu_c_010110_a_0`: -x-y-2 (R168). -/
  | c010110a0 (u : BitVec 2) (d : Dest) (j : Jump)
  /-- `alu_c_010111_a_0`: x+y+1 (R169). -/
  | c010111a0 (u : BitVec 2) (d : Dest) (j : Jump)
  /-- `alu_c_011000_a_0`: ZERO (0) (R170). -/
  | c011000a0 (u : BitVec 2) (d : Dest) (j : Jump)
  /-- `alu_c_011001_a_0`: ONES (-1) (R171). -/
  | c011001a0 (u : BitVec 2) (d : Dest) (j : Jump)
  /-- `alu_c_011010_a_0`: Not(x) = -x-1 (R172). -/
  | c011010a0 (u : BitVec 2) (d : Dest) (j : Jump)
  /-- `alu_c_011011_a_0`: x (R173). -/
  | c011011a0 (u : BitVec 2) (d : Dest) (j : Jump)
  /-- `alu_c_011100_a_0`: Not(x) = -x-1 (R174). -/
  | c011100a0 (u : BitVec 2) (d : Dest) (j : Jump)
  /-- `alu_c_011101_a_0`: x (R175). -/
  | c011101a0 (u : BitVec 2) (d : Dest) (j : Jump)
  /-- `alu_c_011110_a_0`: -x-2 (R176). -/
  | c011110a0 (u : BitVec 2) (d : Dest) (j : Jump)
  /-- `D+1`: x+1 (R177). -/
  | c011111a0 (u : BitVec 2) (d : Dest) (j : Jump)
  /-- `alu_c_100000_a_0`: ZERO (0) (R178). -/
  | c100000a0 (u : BitVec 2) (d : Dest) (j : Jump)
  /-- `alu_c_100001_a_0`: ONES (-1) (R179). -/
  | c100001a0 (u : BitVec 2) (d : Dest) (j : Jump)
  /-- `alu_c_100010_a_0`: y (R180). -/
  | c100010a0 (u : BitVec 2) (d : Dest) (j : Jump)
  /-- `alu_c_100011_a_0`: Not(y) = -y-1 (R181). -/
  | c100011a0 (u : BitVec 2) (d : Dest) (j : Jump)
  /-- `alu_c_100100_a_0`: ZERO (0) (R182). -/
  | c100100a0 (u : BitVec 2) (d : Dest) (j : Jump)
  /-- `alu_c_100101_a_0`: ONES (-1) (R183). -/
  | c100101a0 (u : BitVec 2) (d : Dest) (j : Jump)
  /-- `alu_c_100110_a_0`: Not(y) = -y-1 (R184). -/
  | c100110a0 (u : BitVec 2) (d : Dest) (j : Jump)
  /-- `alu_c_100111_a_0`: y (R185). -/
  | c100111a0 (u : BitVec 2) (d : Dest) (j : Jump)
  /-- `alu_c_101000_a_0`: ZERO (0) (R186). -/
  | c101000a0 (u : BitVec 2) (d : Dest) (j : Jump)
  /-- `alu_c_101001_a_0`: ONES (-1) (R187). -/
  | c101001a0 (u : BitVec 2) (d : Dest) (j : Jump)
  /-- `0`: ZERO (0) (R188). -/
  | c101010a0 (u : BitVec 2) (d : Dest) (j : Jump)
  /-- `alu_c_101011_a_0`: ONES (-1) (R189). -/
  | c101011a0 (u : BitVec 2) (d : Dest) (j : Jump)
  /-- `alu_c_101100_a_0`: ZERO (0) (R190). -/
  | c101100a0 (u : BitVec 2) (d : Dest) (j : Jump)
  /-- `alu_c_101101_a_0`: ONES (-1) (R191). -/
  | c101101a0 (u : BitVec 2) (d : Dest) (j : Jump)
  /-- `alu_c_101110_a_0`: ONES (-1) (R192). -/
  | c101110a0 (u : BitVec 2) (d : Dest) (j : Jump)
  /-- `alu_c_101111_a_0`: ZERO (0) (R193). -/
  | c101111a0 (u : BitVec 2) (d : Dest) (j : Jump)
  /-- `A`: y (R194). -/
  | c110000a0 (u : BitVec 2) (d : Dest) (j : Jump)
  /-- `!A`: Not(y) = -y-1 (R195). -/
  | c110001a0 (u : BitVec 2) (d : Dest) (j : Jump)
  /-- `A-1`: y-1 (R196). -/
  | c110010a0 (u : BitVec 2) (d : Dest) (j : Jump)
  /-- `-A`: -y (R197). -/
  | c110011a0 (u : BitVec 2) (d : Dest) (j : Jump)
  /-- `alu_c_110100_a_0`: Not(y) = -y-1 (R198). -/
  | c110100a0 (u : BitVec 2) (d : Dest) (j : Jump)
  /-- `alu_c_110101_a_0`: y (R199). -/
  | c110101a0 (u : BitVec 2) (d : Dest) (j : Jump)
  /-- `alu_c_110110_a_0`: -y-2 (R200). -/
  | c110110a0 (u : BitVec 2) (d : Dest) (j : Jump)
  /-- `A+1`: y+1 (R201). -/
  | c110111a0 (u : BitVec 2) (d : Dest) (j : Jump)
  /-- `alu_c_111000_a_0`: ZERO (0) (R202). -/
  | c111000a0 (u : BitVec 2) (d : Dest) (j : Jump)
  /-- `alu_c_111001_a_0`: ONES (-1) (R203). -/
  | c111001a0 (u : BitVec 2) (d : Dest) (j : Jump)
  /-- `-1`: ONES (-1) (R204). -/
  | c111010a0 (u : BitVec 2) (d : Dest) (j : Jump)
  /-- `alu_c_111011_a_0`: ZERO (0) (R205). -/
  | c111011a0 (u : BitVec 2) (d : Dest) (j : Jump)
  /-- `alu_c_111100_a_0`: ONES (-1) (R206). -/
  | c111100a0 (u : BitVec 2) (d : Dest) (j : Jump)
  /-- `alu_c_111101_a_0`: ZERO (0) (R207). -/
  | c111101a0 (u : BitVec 2) (d : Dest) (j : Jump)
  /-- `alu_c_111110_a_0`: -2 (0xFFFE) (R208). -/
  | c111110a0 (u : BitVec 2) (d : Dest) (j : Jump)
  /-- `1`: ONE (1) (R209). -/
  | c111111a0 (u : BitVec 2) (d : Dest) (j : Jump)
  /-- `D&M`: And(x, y) (R146). -/
  | c000000a1 (u : BitVec 2) (d : Dest) (j : Jump)
  /-- `alu_c_000001_a_1`: Not(And(x, y)) (R147). -/
  | c000001a1 (u : BitVec 2) (d : Dest) (j : Jump)
  /-- `D+M`: x+y (R148). -/
  | c000010a1 (u : BitVec 2) (d : Dest) (j : Jump)
  /-- `alu_c_000011_a_1`: Not(x+y) = -x-y-1 (R149). -/
  | c000011a1 (u : BitVec 2) (d : Dest) (j : Jump)
  /-- `alu_c_000100_a_1`: And(x, Not(y)) (R150). -/
  | c000100a1 (u : BitVec 2) (d : Dest) (j : Jump)
  /-- `alu_c_000101_a_1`: Or(Not(x), y) (R151). -/
  | c000101a1 (u : BitVec 2) (d : Dest) (j : Jump)
  /-- `alu_c_000110_a_1`: x-y-1 (R152). -/
  | c000110a1 (u : BitVec 2) (d : Dest) (j : Jump)
  /-- `M-D`: y-x (R153). -/
  | c000111a1 (u : BitVec 2) (d : Dest) (j : Jump)
  /-- `alu_c_001000_a_1`: ZERO (0) (R154). -/
  | c001000a1 (u : BitVec 2) (d : Dest) (j : Jump)
  /-- `alu_c_001001_a_1`: ONES (-1) (R155). -/
  | c001001a1 (u : BitVec 2) (d : Dest) (j : Jump)
  /-- `alu_c_001010_a_1`: x (R156). -/
  | c001010a1 (u : BitVec 2) (d : Dest) (j : Jump)
  /-- `alu_c_001011_a_1`: Not(x) = -x-1 (R157). -/
  | c001011a1 (u : BitVec 2) (d : Dest) (j : Jump)
  /-- `alu_c_001100_a_1`: x (R158). -/
  | c001100a1 (u : BitVec 2) (d : Dest) (j : Jump)
  /-- `alu_c_001101_a_1`: Not(x) = -x-1 (R159). -/
  | c001101a1 (u : BitVec 2) (d : Dest) (j : Jump)
  /-- `alu_c_001110_a_1`: x-1 (R160). -/
  | c001110a1 (u : BitVec 2) (d : Dest) (j : Jump)
  /-- `alu_c_001111_a_1`: -x (R161). -/
  | c001111a1 (u : BitVec 2) (d : Dest) (j : Jump)
  /-- `alu_c_010000_a_1`: And(Not(x), y) (R162). -/
  | c010000a1 (u : BitVec 2) (d : Dest) (j : Jump)
  /-- `alu_c_010001_a_1`: Or(x, Not(y)) (R163). -/
  | c010001a1 (u : BitVec 2) (d : Dest) (j : Jump)
  /-- `alu_c_010010_a_1`: y-x-1 (R164). -/
  | c010010a1 (u : BitVec 2) (d : Dest) (j : Jump)
  /-- `D-M`: x-y (R165). -/
  | c010011a1 (u : BitVec 2) (d : Dest) (j : Jump)
  /-- `alu_c_010100_a_1`: Not(Or(x, y)) (R166). -/
  | c010100a1 (u : BitVec 2) (d : Dest) (j : Jump)
  /-- `D|M`: Or(x, y) (R167). -/
  | c010101a1 (u : BitVec 2) (d : Dest) (j : Jump)
  /-- `alu_c_010110_a_1`: -x-y-2 (R168). -/
  | c010110a1 (u : BitVec 2) (d : Dest) (j : Jump)
  /-- `alu_c_010111_a_1`: x+y+1 (R169). -/
  | c010111a1 (u : BitVec 2) (d : Dest) (j : Jump)
  /-- `alu_c_011000_a_1`: ZERO (0) (R170). -/
  | c011000a1 (u : BitVec 2) (d : Dest) (j : Jump)
  /-- `alu_c_011001_a_1`: ONES (-1) (R171). -/
  | c011001a1 (u : BitVec 2) (d : Dest) (j : Jump)
  /-- `alu_c_011010_a_1`: Not(x) = -x-1 (R172). -/
  | c011010a1 (u : BitVec 2) (d : Dest) (j : Jump)
  /-- `alu_c_011011_a_1`: x (R173). -/
  | c011011a1 (u : BitVec 2) (d : Dest) (j : Jump)
  /-- `alu_c_011100_a_1`: Not(x) = -x-1 (R174). -/
  | c011100a1 (u : BitVec 2) (d : Dest) (j : Jump)
  /-- `alu_c_011101_a_1`: x (R175). -/
  | c011101a1 (u : BitVec 2) (d : Dest) (j : Jump)
  /-- `alu_c_011110_a_1`: -x-2 (R176). -/
  | c011110a1 (u : BitVec 2) (d : Dest) (j : Jump)
  /-- `alu_c_011111_a_1`: x+1 (R177). -/
  | c011111a1 (u : BitVec 2) (d : Dest) (j : Jump)
  /-- `alu_c_100000_a_1`: ZERO (0) (R178). -/
  | c100000a1 (u : BitVec 2) (d : Dest) (j : Jump)
  /-- `alu_c_100001_a_1`: ONES (-1) (R179). -/
  | c100001a1 (u : BitVec 2) (d : Dest) (j : Jump)
  /-- `alu_c_100010_a_1`: y (R180). -/
  | c100010a1 (u : BitVec 2) (d : Dest) (j : Jump)
  /-- `alu_c_100011_a_1`: Not(y) = -y-1 (R181). -/
  | c100011a1 (u : BitVec 2) (d : Dest) (j : Jump)
  /-- `alu_c_100100_a_1`: ZERO (0) (R182). -/
  | c100100a1 (u : BitVec 2) (d : Dest) (j : Jump)
  /-- `alu_c_100101_a_1`: ONES (-1) (R183). -/
  | c100101a1 (u : BitVec 2) (d : Dest) (j : Jump)
  /-- `alu_c_100110_a_1`: Not(y) = -y-1 (R184). -/
  | c100110a1 (u : BitVec 2) (d : Dest) (j : Jump)
  /-- `alu_c_100111_a_1`: y (R185). -/
  | c100111a1 (u : BitVec 2) (d : Dest) (j : Jump)
  /-- `alu_c_101000_a_1`: ZERO (0) (R186). -/
  | c101000a1 (u : BitVec 2) (d : Dest) (j : Jump)
  /-- `alu_c_101001_a_1`: ONES (-1) (R187). -/
  | c101001a1 (u : BitVec 2) (d : Dest) (j : Jump)
  /-- `alu_c_101010_a_1`: ZERO (0) (R188). -/
  | c101010a1 (u : BitVec 2) (d : Dest) (j : Jump)
  /-- `alu_c_101011_a_1`: ONES (-1) (R189). -/
  | c101011a1 (u : BitVec 2) (d : Dest) (j : Jump)
  /-- `alu_c_101100_a_1`: ZERO (0) (R190). -/
  | c101100a1 (u : BitVec 2) (d : Dest) (j : Jump)
  /-- `alu_c_101101_a_1`: ONES (-1) (R191). -/
  | c101101a1 (u : BitVec 2) (d : Dest) (j : Jump)
  /-- `alu_c_101110_a_1`: ONES (-1) (R192). -/
  | c101110a1 (u : BitVec 2) (d : Dest) (j : Jump)
  /-- `alu_c_101111_a_1`: ZERO (0) (R193). -/
  | c101111a1 (u : BitVec 2) (d : Dest) (j : Jump)
  /-- `M`: y (R194). -/
  | c110000a1 (u : BitVec 2) (d : Dest) (j : Jump)
  /-- `!M`: Not(y) = -y-1 (R195). -/
  | c110001a1 (u : BitVec 2) (d : Dest) (j : Jump)
  /-- `M-1`: y-1 (R196). -/
  | c110010a1 (u : BitVec 2) (d : Dest) (j : Jump)
  /-- `-M`: -y (R197). -/
  | c110011a1 (u : BitVec 2) (d : Dest) (j : Jump)
  /-- `alu_c_110100_a_1`: Not(y) = -y-1 (R198). -/
  | c110100a1 (u : BitVec 2) (d : Dest) (j : Jump)
  /-- `alu_c_110101_a_1`: y (R199). -/
  | c110101a1 (u : BitVec 2) (d : Dest) (j : Jump)
  /-- `alu_c_110110_a_1`: -y-2 (R200). -/
  | c110110a1 (u : BitVec 2) (d : Dest) (j : Jump)
  /-- `M+1`: y+1 (R201). -/
  | c110111a1 (u : BitVec 2) (d : Dest) (j : Jump)
  /-- `alu_c_111000_a_1`: ZERO (0) (R202). -/
  | c111000a1 (u : BitVec 2) (d : Dest) (j : Jump)
  /-- `alu_c_111001_a_1`: ONES (-1) (R203). -/
  | c111001a1 (u : BitVec 2) (d : Dest) (j : Jump)
  /-- `alu_c_111010_a_1`: ONES (-1) (R204). -/
  | c111010a1 (u : BitVec 2) (d : Dest) (j : Jump)
  /-- `alu_c_111011_a_1`: ZERO (0) (R205). -/
  | c111011a1 (u : BitVec 2) (d : Dest) (j : Jump)
  /-- `alu_c_111100_a_1`: ONES (-1) (R206). -/
  | c111100a1 (u : BitVec 2) (d : Dest) (j : Jump)
  /-- `alu_c_111101_a_1`: ZERO (0) (R207). -/
  | c111101a1 (u : BitVec 2) (d : Dest) (j : Jump)
  /-- `alu_c_111110_a_1`: -2 (0xFFFE) (R208). -/
  | c111110a1 (u : BitVec 2) (d : Dest) (j : Jump)
  /-- `alu_c_111111_a_1`: ONE (1) (R209). -/
  | c111111a1 (u : BitVec 2) (d : Dest) (j : Jump)
  deriving DecidableEq, Repr

end Sys2Proof
end

