-- ==== Sys2Proof/WellFormed.lean ====
section
/-! DEFINITION. What a term of Instr must satisfy to be an instruction of the machine. -/

namespace Sys2Proof

/-- The one check: the payload of an A-instruction is a Word whose bit ⟨0⟩ is 0, a value of 0 to 32767 (R62, R66).
Every field of a C-instruction takes every value (R71, R72). -/
def Instr.wellFormed : Instr → Bool
  | .atV v => !v.getMsbD 0
  | .c000000a0 _ _ _ | .c000001a0 _ _ _ | .c000010a0 _ _ _ | .c000011a0 _ _ _ | .c000100a0 _ _ _ | .c000101a0 _ _ _
  | .c000110a0 _ _ _ | .c000111a0 _ _ _ | .c001000a0 _ _ _ | .c001001a0 _ _ _ | .c001010a0 _ _ _ | .c001011a0 _ _ _
  | .c001100a0 _ _ _ | .c001101a0 _ _ _ | .c001110a0 _ _ _ | .c001111a0 _ _ _ | .c010000a0 _ _ _ | .c010001a0 _ _ _
  | .c010010a0 _ _ _ | .c010011a0 _ _ _ | .c010100a0 _ _ _ | .c010101a0 _ _ _ | .c010110a0 _ _ _ | .c010111a0 _ _ _
  | .c011000a0 _ _ _ | .c011001a0 _ _ _ | .c011010a0 _ _ _ | .c011011a0 _ _ _ | .c011100a0 _ _ _ | .c011101a0 _ _ _
  | .c011110a0 _ _ _ | .c011111a0 _ _ _ | .c100000a0 _ _ _ | .c100001a0 _ _ _ | .c100010a0 _ _ _ | .c100011a0 _ _ _
  | .c100100a0 _ _ _ | .c100101a0 _ _ _ | .c100110a0 _ _ _ | .c100111a0 _ _ _ | .c101000a0 _ _ _ | .c101001a0 _ _ _
  | .c101010a0 _ _ _ | .c101011a0 _ _ _ | .c101100a0 _ _ _ | .c101101a0 _ _ _ | .c101110a0 _ _ _ | .c101111a0 _ _ _
  | .c110000a0 _ _ _ | .c110001a0 _ _ _ | .c110010a0 _ _ _ | .c110011a0 _ _ _ | .c110100a0 _ _ _ | .c110101a0 _ _ _
  | .c110110a0 _ _ _ | .c110111a0 _ _ _ | .c111000a0 _ _ _ | .c111001a0 _ _ _ | .c111010a0 _ _ _ | .c111011a0 _ _ _
  | .c111100a0 _ _ _ | .c111101a0 _ _ _ | .c111110a0 _ _ _ | .c111111a0 _ _ _ | .c000000a1 _ _ _ | .c000001a1 _ _ _
  | .c000010a1 _ _ _ | .c000011a1 _ _ _ | .c000100a1 _ _ _ | .c000101a1 _ _ _ | .c000110a1 _ _ _ | .c000111a1 _ _ _
  | .c001000a1 _ _ _ | .c001001a1 _ _ _ | .c001010a1 _ _ _ | .c001011a1 _ _ _ | .c001100a1 _ _ _ | .c001101a1 _ _ _
  | .c001110a1 _ _ _ | .c001111a1 _ _ _ | .c010000a1 _ _ _ | .c010001a1 _ _ _ | .c010010a1 _ _ _ | .c010011a1 _ _ _
  | .c010100a1 _ _ _ | .c010101a1 _ _ _ | .c010110a1 _ _ _ | .c010111a1 _ _ _ | .c011000a1 _ _ _ | .c011001a1 _ _ _
  | .c011010a1 _ _ _ | .c011011a1 _ _ _ | .c011100a1 _ _ _ | .c011101a1 _ _ _ | .c011110a1 _ _ _ | .c011111a1 _ _ _
  | .c100000a1 _ _ _ | .c100001a1 _ _ _ | .c100010a1 _ _ _ | .c100011a1 _ _ _ | .c100100a1 _ _ _ | .c100101a1 _ _ _
  | .c100110a1 _ _ _ | .c100111a1 _ _ _ | .c101000a1 _ _ _ | .c101001a1 _ _ _ | .c101010a1 _ _ _ | .c101011a1 _ _ _
  | .c101100a1 _ _ _ | .c101101a1 _ _ _ | .c101110a1 _ _ _ | .c101111a1 _ _ _ | .c110000a1 _ _ _ | .c110001a1 _ _ _
  | .c110010a1 _ _ _ | .c110011a1 _ _ _ | .c110100a1 _ _ _ | .c110101a1 _ _ _ | .c110110a1 _ _ _ | .c110111a1 _ _ _
  | .c111000a1 _ _ _ | .c111001a1 _ _ _ | .c111010a1 _ _ _ | .c111011a1 _ _ _ | .c111100a1 _ _ _ | .c111101a1 _ _ _
  | .c111110a1 _ _ _ | .c111111a1 _ _ _ => true

end Sys2Proof
end

