-- ==== Sys2Proof/Decode.lean ====
section
/-! DEFINITION. The decoder, the encoder and the fields of an instruction Word (30_encoding.md). -/

namespace Sys2Proof

/-- Bit w⟨i⟩, ⟨0⟩ the most significant (R13). -/
def wordBit (w : Word) (i : Nat) : Bool := w.getMsbD i

/-- I⟨1⟩ and I⟨2⟩, which no step of the cycle reads (R71). -/
def unusedOf (w : Word) : BitVec 2 := w.extractLsb' 13 2

/-- The ALU control bits I⟨4⟩ to I⟨9⟩, of a Word of either format (R63, R65). -/
def aluControlOf (w : Word) : AluControl :=
  ⟨wordBit w 4, wordBit w 5, wordBit w 6, wordBit w 7, wordBit w 8, wordBit w 9⟩

/-- The destination bits I⟨10⟩ to I⟨12⟩ (R65). -/
def destOf (w : Word) : Dest := ⟨wordBit w 10, wordBit w 11, wordBit w 12⟩

/-- The jump bits I⟨13⟩ to I⟨15⟩ (R65). -/
def jumpOf (w : Word) : Jump := ⟨wordBit w 13, wordBit w 14, wordBit w 15⟩

/-- The control bits of a code written as the six-bit string zx nx zy ny f no (R65). -/
def aluCode (c : BitVec 6) : AluControl :=
  ⟨c.getMsbD 0, c.getMsbD 1, c.getMsbD 2, c.getMsbD 3, c.getMsbD 4, c.getMsbD 5⟩

/-- The C-instruction of an a bit, a control code and the three free fields: the row of opcode_table.json (R70). -/
def decodeC (a : Bool) (c : AluControl) (u : BitVec 2) (d : Dest) (j : Jump) : Instr :=
  match a, c.zx, c.nx, c.zy, c.ny, c.f, c.no with
  | false, false, false, false, false, false, false => .c000000a0 u d j
  | false, false, false, false, false, false, true => .c000001a0 u d j
  | false, false, false, false, false, true, false => .c000010a0 u d j
  | false, false, false, false, false, true, true => .c000011a0 u d j
  | false, false, false, false, true, false, false => .c000100a0 u d j
  | false, false, false, false, true, false, true => .c000101a0 u d j
  | false, false, false, false, true, true, false => .c000110a0 u d j
  | false, false, false, false, true, true, true => .c000111a0 u d j
  | false, false, false, true, false, false, false => .c001000a0 u d j
  | false, false, false, true, false, false, true => .c001001a0 u d j
  | false, false, false, true, false, true, false => .c001010a0 u d j
  | false, false, false, true, false, true, true => .c001011a0 u d j
  | false, false, false, true, true, false, false => .c001100a0 u d j
  | false, false, false, true, true, false, true => .c001101a0 u d j
  | false, false, false, true, true, true, false => .c001110a0 u d j
  | false, false, false, true, true, true, true => .c001111a0 u d j
  | false, false, true, false, false, false, false => .c010000a0 u d j
  | false, false, true, false, false, false, true => .c010001a0 u d j
  | false, false, true, false, false, true, false => .c010010a0 u d j
  | false, false, true, false, false, true, true => .c010011a0 u d j
  | false, false, true, false, true, false, false => .c010100a0 u d j
  | false, false, true, false, true, false, true => .c010101a0 u d j
  | false, false, true, false, true, true, false => .c010110a0 u d j
  | false, false, true, false, true, true, true => .c010111a0 u d j
  | false, false, true, true, false, false, false => .c011000a0 u d j
  | false, false, true, true, false, false, true => .c011001a0 u d j
  | false, false, true, true, false, true, false => .c011010a0 u d j
  | false, false, true, true, false, true, true => .c011011a0 u d j
  | false, false, true, true, true, false, false => .c011100a0 u d j
  | false, false, true, true, true, false, true => .c011101a0 u d j
  | false, false, true, true, true, true, false => .c011110a0 u d j
  | false, false, true, true, true, true, true => .c011111a0 u d j
  | false, true, false, false, false, false, false => .c100000a0 u d j
  | false, true, false, false, false, false, true => .c100001a0 u d j
  | false, true, false, false, false, true, false => .c100010a0 u d j
  | false, true, false, false, false, true, true => .c100011a0 u d j
  | false, true, false, false, true, false, false => .c100100a0 u d j
  | false, true, false, false, true, false, true => .c100101a0 u d j
  | false, true, false, false, true, true, false => .c100110a0 u d j
  | false, true, false, false, true, true, true => .c100111a0 u d j
  | false, true, false, true, false, false, false => .c101000a0 u d j
  | false, true, false, true, false, false, true => .c101001a0 u d j
  | false, true, false, true, false, true, false => .c101010a0 u d j
  | false, true, false, true, false, true, true => .c101011a0 u d j
  | false, true, false, true, true, false, false => .c101100a0 u d j
  | false, true, false, true, true, false, true => .c101101a0 u d j
  | false, true, false, true, true, true, false => .c101110a0 u d j
  | false, true, false, true, true, true, true => .c101111a0 u d j
  | false, true, true, false, false, false, false => .c110000a0 u d j
  | false, true, true, false, false, false, true => .c110001a0 u d j
  | false, true, true, false, false, true, false => .c110010a0 u d j
  | false, true, true, false, false, true, true => .c110011a0 u d j
  | false, true, true, false, true, false, false => .c110100a0 u d j
  | false, true, true, false, true, false, true => .c110101a0 u d j
  | false, true, true, false, true, true, false => .c110110a0 u d j
  | false, true, true, false, true, true, true => .c110111a0 u d j
  | false, true, true, true, false, false, false => .c111000a0 u d j
  | false, true, true, true, false, false, true => .c111001a0 u d j
  | false, true, true, true, false, true, false => .c111010a0 u d j
  | false, true, true, true, false, true, true => .c111011a0 u d j
  | false, true, true, true, true, false, false => .c111100a0 u d j
  | false, true, true, true, true, false, true => .c111101a0 u d j
  | false, true, true, true, true, true, false => .c111110a0 u d j
  | false, true, true, true, true, true, true => .c111111a0 u d j
  | true, false, false, false, false, false, false => .c000000a1 u d j
  | true, false, false, false, false, false, true => .c000001a1 u d j
  | true, false, false, false, false, true, false => .c000010a1 u d j
  | true, false, false, false, false, true, true => .c000011a1 u d j
  | true, false, false, false, true, false, false => .c000100a1 u d j
  | true, false, false, false, true, false, true => .c000101a1 u d j
  | true, false, false, false, true, true, false => .c000110a1 u d j
  | true, false, false, false, true, true, true => .c000111a1 u d j
  | true, false, false, true, false, false, false => .c001000a1 u d j
  | true, false, false, true, false, false, true => .c001001a1 u d j
  | true, false, false, true, false, true, false => .c001010a1 u d j
  | true, false, false, true, false, true, true => .c001011a1 u d j
  | true, false, false, true, true, false, false => .c001100a1 u d j
  | true, false, false, true, true, false, true => .c001101a1 u d j
  | true, false, false, true, true, true, false => .c001110a1 u d j
  | true, false, false, true, true, true, true => .c001111a1 u d j
  | true, false, true, false, false, false, false => .c010000a1 u d j
  | true, false, true, false, false, false, true => .c010001a1 u d j
  | true, false, true, false, false, true, false => .c010010a1 u d j
  | true, false, true, false, false, true, true => .c010011a1 u d j
  | true, false, true, false, true, false, false => .c010100a1 u d j
  | true, false, true, false, true, false, true => .c010101a1 u d j
  | true, false, true, false, true, true, false => .c010110a1 u d j
  | true, false, true, false, true, true, true => .c010111a1 u d j
  | true, false, true, true, false, false, false => .c011000a1 u d j
  | true, false, true, true, false, false, true => .c011001a1 u d j
  | true, false, true, true, false, true, false => .c011010a1 u d j
  | true, false, true, true, false, true, true => .c011011a1 u d j
  | true, false, true, true, true, false, false => .c011100a1 u d j
  | true, false, true, true, true, false, true => .c011101a1 u d j
  | true, false, true, true, true, true, false => .c011110a1 u d j
  | true, false, true, true, true, true, true => .c011111a1 u d j
  | true, true, false, false, false, false, false => .c100000a1 u d j
  | true, true, false, false, false, false, true => .c100001a1 u d j
  | true, true, false, false, false, true, false => .c100010a1 u d j
  | true, true, false, false, false, true, true => .c100011a1 u d j
  | true, true, false, false, true, false, false => .c100100a1 u d j
  | true, true, false, false, true, false, true => .c100101a1 u d j
  | true, true, false, false, true, true, false => .c100110a1 u d j
  | true, true, false, false, true, true, true => .c100111a1 u d j
  | true, true, false, true, false, false, false => .c101000a1 u d j
  | true, true, false, true, false, false, true => .c101001a1 u d j
  | true, true, false, true, false, true, false => .c101010a1 u d j
  | true, true, false, true, false, true, true => .c101011a1 u d j
  | true, true, false, true, true, false, false => .c101100a1 u d j
  | true, true, false, true, true, false, true => .c101101a1 u d j
  | true, true, false, true, true, true, false => .c101110a1 u d j
  | true, true, false, true, true, true, true => .c101111a1 u d j
  | true, true, true, false, false, false, false => .c110000a1 u d j
  | true, true, true, false, false, false, true => .c110001a1 u d j
  | true, true, true, false, false, true, false => .c110010a1 u d j
  | true, true, true, false, false, true, true => .c110011a1 u d j
  | true, true, true, false, true, false, false => .c110100a1 u d j
  | true, true, true, false, true, false, true => .c110101a1 u d j
  | true, true, true, false, true, true, false => .c110110a1 u d j
  | true, true, true, false, true, true, true => .c110111a1 u d j
  | true, true, true, true, false, false, false => .c111000a1 u d j
  | true, true, true, true, false, false, true => .c111001a1 u d j
  | true, true, true, true, false, true, false => .c111010a1 u d j
  | true, true, true, true, false, true, true => .c111011a1 u d j
  | true, true, true, true, true, false, false => .c111100a1 u d j
  | true, true, true, true, true, false, true => .c111101a1 u d j
  | true, true, true, true, true, true, false => .c111110a1 u d j
  | true, true, true, true, true, true, true => .c111111a1 u d j

/-- The decoder (R61, R70): total, since every Word is a legal instruction and none is refused (R72). -/
def decode (w : Word) : Instr :=
  if wordBit w 0 then decodeC (wordBit w 3) (aluControlOf w) (unusedOf w) (destOf w) (jumpOf w) else .atV w

/-- A Word whose one bit [n] is b and whose other bits are 0. -/
def bitAt (b : Bool) (n : Nat) : Word := (BitVec.ofBool b).setWidth 16 <<< n

/-- The pattern `1 u u a zx nx zy ny f no dA dD dM jN jZ jP` of R65. -/
def cWord (u : BitVec 2) (a : Bool) (c : BitVec 6) (d : Dest) (j : Jump) : Word :=
  0x8000#16 ||| (u.setWidth 16 <<< 13) ||| bitAt a 12 ||| (c.setWidth 16 <<< 6) |||
    bitAt d.dA 5 ||| bitAt d.dD 4 ||| bitAt d.dM 3 ||| bitAt j.jN 2 ||| bitAt j.jZ 1 ||| bitAt j.jP 0

/-- The encoder: the Word of an instruction (R62, R65). -/
def encode : Instr → Word
  | .atV v => v
  | .c000000a0 u d j => cWord u false 0b000000#6 d j
  | .c000001a0 u d j => cWord u false 0b000001#6 d j
  | .c000010a0 u d j => cWord u false 0b000010#6 d j
  | .c000011a0 u d j => cWord u false 0b000011#6 d j
  | .c000100a0 u d j => cWord u false 0b000100#6 d j
  | .c000101a0 u d j => cWord u false 0b000101#6 d j
  | .c000110a0 u d j => cWord u false 0b000110#6 d j
  | .c000111a0 u d j => cWord u false 0b000111#6 d j
  | .c001000a0 u d j => cWord u false 0b001000#6 d j
  | .c001001a0 u d j => cWord u false 0b001001#6 d j
  | .c001010a0 u d j => cWord u false 0b001010#6 d j
  | .c001011a0 u d j => cWord u false 0b001011#6 d j
  | .c001100a0 u d j => cWord u false 0b001100#6 d j
  | .c001101a0 u d j => cWord u false 0b001101#6 d j
  | .c001110a0 u d j => cWord u false 0b001110#6 d j
  | .c001111a0 u d j => cWord u false 0b001111#6 d j
  | .c010000a0 u d j => cWord u false 0b010000#6 d j
  | .c010001a0 u d j => cWord u false 0b010001#6 d j
  | .c010010a0 u d j => cWord u false 0b010010#6 d j
  | .c010011a0 u d j => cWord u false 0b010011#6 d j
  | .c010100a0 u d j => cWord u false 0b010100#6 d j
  | .c010101a0 u d j => cWord u false 0b010101#6 d j
  | .c010110a0 u d j => cWord u false 0b010110#6 d j
  | .c010111a0 u d j => cWord u false 0b010111#6 d j
  | .c011000a0 u d j => cWord u false 0b011000#6 d j
  | .c011001a0 u d j => cWord u false 0b011001#6 d j
  | .c011010a0 u d j => cWord u false 0b011010#6 d j
  | .c011011a0 u d j => cWord u false 0b011011#6 d j
  | .c011100a0 u d j => cWord u false 0b011100#6 d j
  | .c011101a0 u d j => cWord u false 0b011101#6 d j
  | .c011110a0 u d j => cWord u false 0b011110#6 d j
  | .c011111a0 u d j => cWord u false 0b011111#6 d j
  | .c100000a0 u d j => cWord u false 0b100000#6 d j
  | .c100001a0 u d j => cWord u false 0b100001#6 d j
  | .c100010a0 u d j => cWord u false 0b100010#6 d j
  | .c100011a0 u d j => cWord u false 0b100011#6 d j
  | .c100100a0 u d j => cWord u false 0b100100#6 d j
  | .c100101a0 u d j => cWord u false 0b100101#6 d j
  | .c100110a0 u d j => cWord u false 0b100110#6 d j
  | .c100111a0 u d j => cWord u false 0b100111#6 d j
  | .c101000a0 u d j => cWord u false 0b101000#6 d j
  | .c101001a0 u d j => cWord u false 0b101001#6 d j
  | .c101010a0 u d j => cWord u false 0b101010#6 d j
  | .c101011a0 u d j => cWord u false 0b101011#6 d j
  | .c101100a0 u d j => cWord u false 0b101100#6 d j
  | .c101101a0 u d j => cWord u false 0b101101#6 d j
  | .c101110a0 u d j => cWord u false 0b101110#6 d j
  | .c101111a0 u d j => cWord u false 0b101111#6 d j
  | .c110000a0 u d j => cWord u false 0b110000#6 d j
  | .c110001a0 u d j => cWord u false 0b110001#6 d j
  | .c110010a0 u d j => cWord u false 0b110010#6 d j
  | .c110011a0 u d j => cWord u false 0b110011#6 d j
  | .c110100a0 u d j => cWord u false 0b110100#6 d j
  | .c110101a0 u d j => cWord u false 0b110101#6 d j
  | .c110110a0 u d j => cWord u false 0b110110#6 d j
  | .c110111a0 u d j => cWord u false 0b110111#6 d j
  | .c111000a0 u d j => cWord u false 0b111000#6 d j
  | .c111001a0 u d j => cWord u false 0b111001#6 d j
  | .c111010a0 u d j => cWord u false 0b111010#6 d j
  | .c111011a0 u d j => cWord u false 0b111011#6 d j
  | .c111100a0 u d j => cWord u false 0b111100#6 d j
  | .c111101a0 u d j => cWord u false 0b111101#6 d j
  | .c111110a0 u d j => cWord u false 0b111110#6 d j
  | .c111111a0 u d j => cWord u false 0b111111#6 d j
  | .c000000a1 u d j => cWord u true 0b000000#6 d j
  | .c000001a1 u d j => cWord u true 0b000001#6 d j
  | .c000010a1 u d j => cWord u true 0b000010#6 d j
  | .c000011a1 u d j => cWord u true 0b000011#6 d j
  | .c000100a1 u d j => cWord u true 0b000100#6 d j
  | .c000101a1 u d j => cWord u true 0b000101#6 d j
  | .c000110a1 u d j => cWord u true 0b000110#6 d j
  | .c000111a1 u d j => cWord u true 0b000111#6 d j
  | .c001000a1 u d j => cWord u true 0b001000#6 d j
  | .c001001a1 u d j => cWord u true 0b001001#6 d j
  | .c001010a1 u d j => cWord u true 0b001010#6 d j
  | .c001011a1 u d j => cWord u true 0b001011#6 d j
  | .c001100a1 u d j => cWord u true 0b001100#6 d j
  | .c001101a1 u d j => cWord u true 0b001101#6 d j
  | .c001110a1 u d j => cWord u true 0b001110#6 d j
  | .c001111a1 u d j => cWord u true 0b001111#6 d j
  | .c010000a1 u d j => cWord u true 0b010000#6 d j
  | .c010001a1 u d j => cWord u true 0b010001#6 d j
  | .c010010a1 u d j => cWord u true 0b010010#6 d j
  | .c010011a1 u d j => cWord u true 0b010011#6 d j
  | .c010100a1 u d j => cWord u true 0b010100#6 d j
  | .c010101a1 u d j => cWord u true 0b010101#6 d j
  | .c010110a1 u d j => cWord u true 0b010110#6 d j
  | .c010111a1 u d j => cWord u true 0b010111#6 d j
  | .c011000a1 u d j => cWord u true 0b011000#6 d j
  | .c011001a1 u d j => cWord u true 0b011001#6 d j
  | .c011010a1 u d j => cWord u true 0b011010#6 d j
  | .c011011a1 u d j => cWord u true 0b011011#6 d j
  | .c011100a1 u d j => cWord u true 0b011100#6 d j
  | .c011101a1 u d j => cWord u true 0b011101#6 d j
  | .c011110a1 u d j => cWord u true 0b011110#6 d j
  | .c011111a1 u d j => cWord u true 0b011111#6 d j
  | .c100000a1 u d j => cWord u true 0b100000#6 d j
  | .c100001a1 u d j => cWord u true 0b100001#6 d j
  | .c100010a1 u d j => cWord u true 0b100010#6 d j
  | .c100011a1 u d j => cWord u true 0b100011#6 d j
  | .c100100a1 u d j => cWord u true 0b100100#6 d j
  | .c100101a1 u d j => cWord u true 0b100101#6 d j
  | .c100110a1 u d j => cWord u true 0b100110#6 d j
  | .c100111a1 u d j => cWord u true 0b100111#6 d j
  | .c101000a1 u d j => cWord u true 0b101000#6 d j
  | .c101001a1 u d j => cWord u true 0b101001#6 d j
  | .c101010a1 u d j => cWord u true 0b101010#6 d j
  | .c101011a1 u d j => cWord u true 0b101011#6 d j
  | .c101100a1 u d j => cWord u true 0b101100#6 d j
  | .c101101a1 u d j => cWord u true 0b101101#6 d j
  | .c101110a1 u d j => cWord u true 0b101110#6 d j
  | .c101111a1 u d j => cWord u true 0b101111#6 d j
  | .c110000a1 u d j => cWord u true 0b110000#6 d j
  | .c110001a1 u d j => cWord u true 0b110001#6 d j
  | .c110010a1 u d j => cWord u true 0b110010#6 d j
  | .c110011a1 u d j => cWord u true 0b110011#6 d j
  | .c110100a1 u d j => cWord u true 0b110100#6 d j
  | .c110101a1 u d j => cWord u true 0b110101#6 d j
  | .c110110a1 u d j => cWord u true 0b110110#6 d j
  | .c110111a1 u d j => cWord u true 0b110111#6 d j
  | .c111000a1 u d j => cWord u true 0b111000#6 d j
  | .c111001a1 u d j => cWord u true 0b111001#6 d j
  | .c111010a1 u d j => cWord u true 0b111010#6 d j
  | .c111011a1 u d j => cWord u true 0b111011#6 d j
  | .c111100a1 u d j => cWord u true 0b111100#6 d j
  | .c111101a1 u d j => cWord u true 0b111101#6 d j
  | .c111110a1 u d j => cWord u true 0b111110#6 d j
  | .c111111a1 u d j => cWord u true 0b111111#6 d j

/-- One row of spec/opcode_table.json: a Word w is an instruction of the row when w &&& mask = pattern. -/
structure OpcodeRow where
  mnemonic : String
  mask : Word
  pattern : Word
  deriving DecidableEq, Repr

/-- The mask of every C row: bit ⟨0⟩, the a bit and the control code (R70). -/
def cMask : Word := 0x9FC0#16

/-- The row of spec/opcode_table.json an instruction belongs to, its mnemonic as the table spells it. -/
def Instr.row : Instr → OpcodeRow
  | .atV _ => ⟨"@v", 0x8000#16, 0x0000#16⟩
  | .c000000a0 _ _ _ => ⟨"D&A", cMask, 0x8000#16⟩
  | .c000001a0 _ _ _ => ⟨"alu_c_000001_a_0", cMask, 0x8040#16⟩
  | .c000010a0 _ _ _ => ⟨"D+A", cMask, 0x8080#16⟩
  | .c000011a0 _ _ _ => ⟨"alu_c_000011_a_0", cMask, 0x80C0#16⟩
  | .c000100a0 _ _ _ => ⟨"alu_c_000100_a_0", cMask, 0x8100#16⟩
  | .c000101a0 _ _ _ => ⟨"alu_c_000101_a_0", cMask, 0x8140#16⟩
  | .c000110a0 _ _ _ => ⟨"alu_c_000110_a_0", cMask, 0x8180#16⟩
  | .c000111a0 _ _ _ => ⟨"A-D", cMask, 0x81C0#16⟩
  | .c001000a0 _ _ _ => ⟨"alu_c_001000_a_0", cMask, 0x8200#16⟩
  | .c001001a0 _ _ _ => ⟨"alu_c_001001_a_0", cMask, 0x8240#16⟩
  | .c001010a0 _ _ _ => ⟨"alu_c_001010_a_0", cMask, 0x8280#16⟩
  | .c001011a0 _ _ _ => ⟨"alu_c_001011_a_0", cMask, 0x82C0#16⟩
  | .c001100a0 _ _ _ => ⟨"D", cMask, 0x8300#16⟩
  | .c001101a0 _ _ _ => ⟨"!D", cMask, 0x8340#16⟩
  | .c001110a0 _ _ _ => ⟨"D-1", cMask, 0x8380#16⟩
  | .c001111a0 _ _ _ => ⟨"-D", cMask, 0x83C0#16⟩
  | .c010000a0 _ _ _ => ⟨"alu_c_010000_a_0", cMask, 0x8400#16⟩
  | .c010001a0 _ _ _ => ⟨"alu_c_010001_a_0", cMask, 0x8440#16⟩
  | .c010010a0 _ _ _ => ⟨"alu_c_010010_a_0", cMask, 0x8480#16⟩
  | .c010011a0 _ _ _ => ⟨"D-A", cMask, 0x84C0#16⟩
  | .c010100a0 _ _ _ => ⟨"alu_c_010100_a_0", cMask, 0x8500#16⟩
  | .c010101a0 _ _ _ => ⟨"D|A", cMask, 0x8540#16⟩
  | .c010110a0 _ _ _ => ⟨"alu_c_010110_a_0", cMask, 0x8580#16⟩
  | .c010111a0 _ _ _ => ⟨"alu_c_010111_a_0", cMask, 0x85C0#16⟩
  | .c011000a0 _ _ _ => ⟨"alu_c_011000_a_0", cMask, 0x8600#16⟩
  | .c011001a0 _ _ _ => ⟨"alu_c_011001_a_0", cMask, 0x8640#16⟩
  | .c011010a0 _ _ _ => ⟨"alu_c_011010_a_0", cMask, 0x8680#16⟩
  | .c011011a0 _ _ _ => ⟨"alu_c_011011_a_0", cMask, 0x86C0#16⟩
  | .c011100a0 _ _ _ => ⟨"alu_c_011100_a_0", cMask, 0x8700#16⟩
  | .c011101a0 _ _ _ => ⟨"alu_c_011101_a_0", cMask, 0x8740#16⟩
  | .c011110a0 _ _ _ => ⟨"alu_c_011110_a_0", cMask, 0x8780#16⟩
  | .c011111a0 _ _ _ => ⟨"D+1", cMask, 0x87C0#16⟩
  | .c100000a0 _ _ _ => ⟨"alu_c_100000_a_0", cMask, 0x8800#16⟩
  | .c100001a0 _ _ _ => ⟨"alu_c_100001_a_0", cMask, 0x8840#16⟩
  | .c100010a0 _ _ _ => ⟨"alu_c_100010_a_0", cMask, 0x8880#16⟩
  | .c100011a0 _ _ _ => ⟨"alu_c_100011_a_0", cMask, 0x88C0#16⟩
  | .c100100a0 _ _ _ => ⟨"alu_c_100100_a_0", cMask, 0x8900#16⟩
  | .c100101a0 _ _ _ => ⟨"alu_c_100101_a_0", cMask, 0x8940#16⟩
  | .c100110a0 _ _ _ => ⟨"alu_c_100110_a_0", cMask, 0x8980#16⟩
  | .c100111a0 _ _ _ => ⟨"alu_c_100111_a_0", cMask, 0x89C0#16⟩
  | .c101000a0 _ _ _ => ⟨"alu_c_101000_a_0", cMask, 0x8A00#16⟩
  | .c101001a0 _ _ _ => ⟨"alu_c_101001_a_0", cMask, 0x8A40#16⟩
  | .c101010a0 _ _ _ => ⟨"0", cMask, 0x8A80#16⟩
  | .c101011a0 _ _ _ => ⟨"alu_c_101011_a_0", cMask, 0x8AC0#16⟩
  | .c101100a0 _ _ _ => ⟨"alu_c_101100_a_0", cMask, 0x8B00#16⟩
  | .c101101a0 _ _ _ => ⟨"alu_c_101101_a_0", cMask, 0x8B40#16⟩
  | .c101110a0 _ _ _ => ⟨"alu_c_101110_a_0", cMask, 0x8B80#16⟩
  | .c101111a0 _ _ _ => ⟨"alu_c_101111_a_0", cMask, 0x8BC0#16⟩
  | .c110000a0 _ _ _ => ⟨"A", cMask, 0x8C00#16⟩
  | .c110001a0 _ _ _ => ⟨"!A", cMask, 0x8C40#16⟩
  | .c110010a0 _ _ _ => ⟨"A-1", cMask, 0x8C80#16⟩
  | .c110011a0 _ _ _ => ⟨"-A", cMask, 0x8CC0#16⟩
  | .c110100a0 _ _ _ => ⟨"alu_c_110100_a_0", cMask, 0x8D00#16⟩
  | .c110101a0 _ _ _ => ⟨"alu_c_110101_a_0", cMask, 0x8D40#16⟩
  | .c110110a0 _ _ _ => ⟨"alu_c_110110_a_0", cMask, 0x8D80#16⟩
  | .c110111a0 _ _ _ => ⟨"A+1", cMask, 0x8DC0#16⟩
  | .c111000a0 _ _ _ => ⟨"alu_c_111000_a_0", cMask, 0x8E00#16⟩
  | .c111001a0 _ _ _ => ⟨"alu_c_111001_a_0", cMask, 0x8E40#16⟩
  | .c111010a0 _ _ _ => ⟨"-1", cMask, 0x8E80#16⟩
  | .c111011a0 _ _ _ => ⟨"alu_c_111011_a_0", cMask, 0x8EC0#16⟩
  | .c111100a0 _ _ _ => ⟨"alu_c_111100_a_0", cMask, 0x8F00#16⟩
  | .c111101a0 _ _ _ => ⟨"alu_c_111101_a_0", cMask, 0x8F40#16⟩
  | .c111110a0 _ _ _ => ⟨"alu_c_111110_a_0", cMask, 0x8F80#16⟩
  | .c111111a0 _ _ _ => ⟨"1", cMask, 0x8FC0#16⟩
  | .c000000a1 _ _ _ => ⟨"D&M", cMask, 0x9000#16⟩
  | .c000001a1 _ _ _ => ⟨"alu_c_000001_a_1", cMask, 0x9040#16⟩
  | .c000010a1 _ _ _ => ⟨"D+M", cMask, 0x9080#16⟩
  | .c000011a1 _ _ _ => ⟨"alu_c_000011_a_1", cMask, 0x90C0#16⟩
  | .c000100a1 _ _ _ => ⟨"alu_c_000100_a_1", cMask, 0x9100#16⟩
  | .c000101a1 _ _ _ => ⟨"alu_c_000101_a_1", cMask, 0x9140#16⟩
  | .c000110a1 _ _ _ => ⟨"alu_c_000110_a_1", cMask, 0x9180#16⟩
  | .c000111a1 _ _ _ => ⟨"M-D", cMask, 0x91C0#16⟩
  | .c001000a1 _ _ _ => ⟨"alu_c_001000_a_1", cMask, 0x9200#16⟩
  | .c001001a1 _ _ _ => ⟨"alu_c_001001_a_1", cMask, 0x9240#16⟩
  | .c001010a1 _ _ _ => ⟨"alu_c_001010_a_1", cMask, 0x9280#16⟩
  | .c001011a1 _ _ _ => ⟨"alu_c_001011_a_1", cMask, 0x92C0#16⟩
  | .c001100a1 _ _ _ => ⟨"alu_c_001100_a_1", cMask, 0x9300#16⟩
  | .c001101a1 _ _ _ => ⟨"alu_c_001101_a_1", cMask, 0x9340#16⟩
  | .c001110a1 _ _ _ => ⟨"alu_c_001110_a_1", cMask, 0x9380#16⟩
  | .c001111a1 _ _ _ => ⟨"alu_c_001111_a_1", cMask, 0x93C0#16⟩
  | .c010000a1 _ _ _ => ⟨"alu_c_010000_a_1", cMask, 0x9400#16⟩
  | .c010001a1 _ _ _ => ⟨"alu_c_010001_a_1", cMask, 0x9440#16⟩
  | .c010010a1 _ _ _ => ⟨"alu_c_010010_a_1", cMask, 0x9480#16⟩
  | .c010011a1 _ _ _ => ⟨"D-M", cMask, 0x94C0#16⟩
  | .c010100a1 _ _ _ => ⟨"alu_c_010100_a_1", cMask, 0x9500#16⟩
  | .c010101a1 _ _ _ => ⟨"D|M", cMask, 0x9540#16⟩
  | .c010110a1 _ _ _ => ⟨"alu_c_010110_a_1", cMask, 0x9580#16⟩
  | .c010111a1 _ _ _ => ⟨"alu_c_010111_a_1", cMask, 0x95C0#16⟩
  | .c011000a1 _ _ _ => ⟨"alu_c_011000_a_1", cMask, 0x9600#16⟩
  | .c011001a1 _ _ _ => ⟨"alu_c_011001_a_1", cMask, 0x9640#16⟩
  | .c011010a1 _ _ _ => ⟨"alu_c_011010_a_1", cMask, 0x9680#16⟩
  | .c011011a1 _ _ _ => ⟨"alu_c_011011_a_1", cMask, 0x96C0#16⟩
  | .c011100a1 _ _ _ => ⟨"alu_c_011100_a_1", cMask, 0x9700#16⟩
  | .c011101a1 _ _ _ => ⟨"alu_c_011101_a_1", cMask, 0x9740#16⟩
  | .c011110a1 _ _ _ => ⟨"alu_c_011110_a_1", cMask, 0x9780#16⟩
  | .c011111a1 _ _ _ => ⟨"alu_c_011111_a_1", cMask, 0x97C0#16⟩
  | .c100000a1 _ _ _ => ⟨"alu_c_100000_a_1", cMask, 0x9800#16⟩
  | .c100001a1 _ _ _ => ⟨"alu_c_100001_a_1", cMask, 0x9840#16⟩
  | .c100010a1 _ _ _ => ⟨"alu_c_100010_a_1", cMask, 0x9880#16⟩
  | .c100011a1 _ _ _ => ⟨"alu_c_100011_a_1", cMask, 0x98C0#16⟩
  | .c100100a1 _ _ _ => ⟨"alu_c_100100_a_1", cMask, 0x9900#16⟩
  | .c100101a1 _ _ _ => ⟨"alu_c_100101_a_1", cMask, 0x9940#16⟩
  | .c100110a1 _ _ _ => ⟨"alu_c_100110_a_1", cMask, 0x9980#16⟩
  | .c100111a1 _ _ _ => ⟨"alu_c_100111_a_1", cMask, 0x99C0#16⟩
  | .c101000a1 _ _ _ => ⟨"alu_c_101000_a_1", cMask, 0x9A00#16⟩
  | .c101001a1 _ _ _ => ⟨"alu_c_101001_a_1", cMask, 0x9A40#16⟩
  | .c101010a1 _ _ _ => ⟨"alu_c_101010_a_1", cMask, 0x9A80#16⟩
  | .c101011a1 _ _ _ => ⟨"alu_c_101011_a_1", cMask, 0x9AC0#16⟩
  | .c101100a1 _ _ _ => ⟨"alu_c_101100_a_1", cMask, 0x9B00#16⟩
  | .c101101a1 _ _ _ => ⟨"alu_c_101101_a_1", cMask, 0x9B40#16⟩
  | .c101110a1 _ _ _ => ⟨"alu_c_101110_a_1", cMask, 0x9B80#16⟩
  | .c101111a1 _ _ _ => ⟨"alu_c_101111_a_1", cMask, 0x9BC0#16⟩
  | .c110000a1 _ _ _ => ⟨"M", cMask, 0x9C00#16⟩
  | .c110001a1 _ _ _ => ⟨"!M", cMask, 0x9C40#16⟩
  | .c110010a1 _ _ _ => ⟨"M-1", cMask, 0x9C80#16⟩
  | .c110011a1 _ _ _ => ⟨"-M", cMask, 0x9CC0#16⟩
  | .c110100a1 _ _ _ => ⟨"alu_c_110100_a_1", cMask, 0x9D00#16⟩
  | .c110101a1 _ _ _ => ⟨"alu_c_110101_a_1", cMask, 0x9D40#16⟩
  | .c110110a1 _ _ _ => ⟨"alu_c_110110_a_1", cMask, 0x9D80#16⟩
  | .c110111a1 _ _ _ => ⟨"M+1", cMask, 0x9DC0#16⟩
  | .c111000a1 _ _ _ => ⟨"alu_c_111000_a_1", cMask, 0x9E00#16⟩
  | .c111001a1 _ _ _ => ⟨"alu_c_111001_a_1", cMask, 0x9E40#16⟩
  | .c111010a1 _ _ _ => ⟨"alu_c_111010_a_1", cMask, 0x9E80#16⟩
  | .c111011a1 _ _ _ => ⟨"alu_c_111011_a_1", cMask, 0x9EC0#16⟩
  | .c111100a1 _ _ _ => ⟨"alu_c_111100_a_1", cMask, 0x9F00#16⟩
  | .c111101a1 _ _ _ => ⟨"alu_c_111101_a_1", cMask, 0x9F40#16⟩
  | .c111110a1 _ _ _ => ⟨"alu_c_111110_a_1", cMask, 0x9F80#16⟩
  | .c111111a1 _ _ _ => ⟨"alu_c_111111_a_1", cMask, 0x9FC0#16⟩

/-- An instruction's mnemonic in spec/opcode_table.json. -/
def Instr.mnemonic (i : Instr) : String := i.row.mnemonic

/-- The instruction the decoder reads from a table word: instructions are one Word long, so a word of more than 16 bits is none
(R60); the bits above `nbits` are 0. -/
def decodeTableWord (nbits w : Nat) : Option Instr :=
  if 16 < nbits then none else some (decode (BitVec.ofNat 16 (w % 2 ^ nbits)))

end Sys2Proof
end

