-- ==== Sys2Proof/Machine/Operands.lean ====
section
/-! DEFINITION. The combinational datapath: the primitives, the adder, the ALU's six steps and the multiplexer (40_datapath.md). -/

namespace Sys2Proof.Machine

/-- `Not(w)`, the bitwise complement (R76). -/
def notW (w : Word) : Word := ~~~w

/-- `And(w, v)`, the bitwise conjunction (R77). -/
def andW (w v : Word) : Word := w &&& v

/-- `Adder(a, b)`: u(a) + u(b) modulo 2^16 (R79); `rippleAdder` is the procedure of R78 (log 14). -/
def adder (a b : Word) : Word := a + b

/-- The sum bit of one stage of the ripple-carry adder (R78). -/
def fullSum (a b carry : Bool) : Bool := (a ^^ b) ^^ carry

/-- The carry out of one stage of the ripple-carry adder (R78). -/
def fullCarry (a b carry : Bool) : Bool := (a && b) || (a && carry) || (b && carry)

/-- The carry and the sum after the loop of R78 has run over the n least significant bits. -/
def rippleLoop (a b : Word) : Nat → Bool × Word
  | 0 => (false, 0#16)
  | n + 1 =>
    let carry := (rippleLoop a b n).1
    (fullCarry (a.getLsbD n) (b.getLsbD n) carry,
      (rippleLoop a b n).2 ||| ((BitVec.ofBool (fullSum (a.getLsbD n) (b.getLsbD n) carry)).setWidth 16 <<< n))

/-- The ripple-carry procedure of R78: sixteen stages from bit ⟨15⟩ to bit ⟨0⟩, the last carry dropped. -/
def rippleAdder (a b : Word) : Word := (rippleLoop a b 16).2

/-- `Mux(in1, in2, control)` (R84). -/
def mux (in1 in2 : Word) (control : Bool) : Word := if control then in2 else in1

/-- Steps 1 and 2 of the ALU on x, and steps 3 and 4 on y: zero the input, then complement it (R81). -/
def precondition (zero complement : Bool) (w : Word) : Word :=
  let w := if zero then 0#16 else w
  if complement then notW w else w

/-- The ALU's output: the six steps of R81. -/
def aluOut (x y : Word) (c : AluControl) : Word :=
  let x := precondition c.zx c.nx x
  let y := precondition c.zy c.ny y
  let r := if c.f then adder x y else andW x y
  if c.no then notW r else r

end Sys2Proof.Machine
end

