-- ==== Sys2Proof/Config.lean ====
section
/-! DEFINITION. The parameters of 00_scope.md R12: the sizes of the two stores, and the values the launch starts from. -/

namespace Sys2Proof.Config

/-- ROM_SIZE: the number of instruction-store locations (R10, R12). -/
def romSize : Nat := 65536

/-- RAM_SIZE: the number of data-store locations (R10, R12). -/
def ramSize : Nat := 65536

/-- PENDING_INIT: the pending value of A, D and PC at construction. DESIGN CHOICE of the spec (D1), unsafe, log 3. -/
def pendingInit : Word := 0x0000#16

/-- RAM_OUT_INIT: the data store's output latch before any seed. DESIGN CHOICE of the spec (D3), unsafe, log 4. -/
def ramOutInit : Word := 0x0000#16

/-- ALU_OUT_INIT in State.reset. The spec leaves it open (D2): DESIGN CHOICE of the model, unsafe, log 1. `launch` takes the
value as an argument instead. -/
def aluOutInit : Word := 0x0000#16

/-- ALU.zr in State.reset; the spec allows any value (R35, O2). DESIGN CHOICE of the model, unsafe, log 2. -/
def aluZrInit : Bool := true

/-- ALU.ng in State.reset; the spec allows any value (R35, O2). DESIGN CHOICE of the model, unsafe, log 2. -/
def aluNgInit : Bool := false

end Sys2Proof.Config
end

