-- ==== Sys2Proof/Machine/State.lean ====
section
/-! DEFINITION. The state of the CORE between two cycles (10_state.md R17), as plain data, and its value after reset (R35). -/

namespace Sys2Proof.Machine

/-- The faults of the running machine. There is none (R228, R116), so the type has no constructor and no step can answer a fault:
nobody raises one, and that is the spec's own statement (log 12). -/
inductive Fault where
  deriving DecidableEq, Repr

/-- What is refused, at the host boundary only (R229); no instruction and no step raises any of these (log 11). -/
inductive Refusal where
  /-- An instruction without a meaning. Raised by no arm of this model's `exec`; safe. -/
  | notModelled (mnemonic : String)
  /-- A Word from the host that is not 16 elements of 0 and 1 (R75, R229 (a)). Raised by `launch` and `hostRead`; safe. -/
  | malformedWord
  /-- A program of more Words than the instruction store has (D9, O6). Raised by `launch`; safe. -/
  | programTooLong
  /-- A reset level that is not 0 or 1 (R229 (d)). Raised by `driveReset`; safe. -/
  | badResetLevel
  /-- A data-store read by the host before the halt (D15, O8). Raised by `hostRead`; safe. -/
  | hostAccessDuringRun
  deriving DecidableEq, Repr

/-- A storage element: the pending value and the committed output (R18). The A register, the D register and the PC are each one. -/
structure Storage where
  /-- `R.reg`, the value to expose on the next cycle. -/
  reg : Word
  /-- `R.out`, what the element's readers see. -/
  out : Word
  deriving DecidableEq, Repr

/-- The ALU's last results (R24, R25). -/
structure AluLatch where
  out : Word
  zr : Bool
  ng : Bool
  deriving DecidableEq, Repr

/-- One listed location of a store: its address u(a) and its Word. The smallest addressable unit is the Word (R47, R48, log 6). -/
abbrev WordCell := Nat × Word

/-- Data-store contents: the locations that do not hold ZERO, in rising order of address (R27). -/
abbrev Memory := List WordCell

/-- The program image: the present locations, in rising order of address; an address not listed is absent (R26). -/
abbrev Rom := List WordCell

/-- The data store: its contents and its output latch (R27, R28). -/
structure DataStore where
  mem : Memory
  out : Word
  deriving DecidableEq, Repr

/-- The state of the CORE (R17), with the level on the CPU's reset input (R111, log 5). -/
structure State where
  /-- The A register (R19). -/
  a : Storage
  /-- The D register (R20). -/
  d : Storage
  /-- The program counter (R22). -/
  pc : Storage
  /-- The ALU's last results (R24, R25). -/
  alu : AluLatch
  /-- The data store (R27, R28). -/
  ram : DataStore
  /-- The instruction store, `ROM.img` (R26). -/
  rom : Rom
  /-- The driver's halted bit (R29). -/
  halted : Bool
  /-- The CPU's reset input: the model's own field, 0 in every run of the driver (R111, D4, log 5). -/
  resetIn : Bool
  deriving DecidableEq, Repr

/-- The state at construction, for a value of the ALU's latch, which the spec leaves open (R35, D2). -/
def State.construction (alu : AluLatch) : State where
  a := { reg := Config.pendingInit, out := 0x0000#16 }
  d := { reg := Config.pendingInit, out := 0x0000#16 }
  pc := { reg := Config.pendingInit, out := 0x0000#16 }
  alu := alu
  ram := { mem := [], out := Config.ramOutInit }
  rom := []
  halted := false
  resetIn := false

/-- The machine right after reset: the state at construction (R35), with the values of log 1 and 2 in the ALU's latch. -/
def State.reset : State :=
  State.construction { out := Config.aluOutInit, zr := Config.aluZrInit, ng := Config.aluNgInit }

/-- `s` with another A register. -/
def State.withA (s : State) (r : Storage) : State := { s with a := r }
/-- `s` with another D register. -/
def State.withD (s : State) (r : Storage) : State := { s with d := r }
/-- `s` with another program counter. -/
def State.withPc (s : State) (r : Storage) : State := { s with pc := r }
/-- `s` with other ALU results. -/
def State.withAlu (s : State) (l : AluLatch) : State := { s with alu := l }
/-- `s` with another data store. -/
def State.withRam (s : State) (m : DataStore) : State := { s with ram := m }
/-- `s` with another program image. -/
def State.withRom (s : State) (r : Rom) : State := { s with rom := r }
/-- `s` with another halted bit. -/
def State.withHalted (s : State) (b : Bool) : State := { s with halted := b }
/-- `s` with another level on the reset input. -/
def State.withResetIn (s : State) (b : Bool) : State := { s with resetIn := b }

end Sys2Proof.Machine
end

