-- ==== Sys2Proof/Machine/Flags.lean ====
section
/-! DEFINITION. The ALU's flags and the jump decision that reads them (40_datapath.md R82, 46_jump.md R210). -/

namespace Sys2Proof.Machine

/-- zr: 1 iff every bit of out is 0 (R82). -/
def zrFlag (out : Word) : Bool := out == 0#16

/-- ng: out⟨0⟩ (R82). -/
def ngFlag (out : Word) : Bool := wordBit out 0

/-- `ALU(x, y, c)`: the output and both flags, recomputed in full by every call (R81, R82, R83). -/
def alu (x y : Word) (c : AluControl) : AluLatch :=
  { out := aluOut x y c, zr := zrFlag (aluOut x y c), ng := ngFlag (aluOut x y c) }

/-- Step 7: I⟨0⟩ and ((jN and ng) or (jZ and zr) or (jP and not ng)) (R105, R210; jP is "not ng", C3). -/
def jumpDecision (isC : Bool) (j : Jump) (zr ng : Bool) : Bool :=
  isC && ((j.jN && ng) || (j.jZ && zr) || (j.jP && !ng))

end Sys2Proof.Machine
end

