-- ==== Sys2Proof/Machine/Ops.lean ====
section
/-! DEFINITION. The operations every instruction shares: the two stores, the clocked storage elements, and the cycle
(20_memory.md, 41_storage.md, 42_cpu_cycle.md). There is no exception to take and none to return from (60_exceptions.md R228, R231,
R232), so no such operation stands here. -/

namespace Sys2Proof.Machine

/-! ### Sparse stores -/

/-- The Word listed at an address. -/
def storeGet : List WordCell → Nat → Option Word
  | [], _ => none
  | (k, w) :: rest, addr => if k = addr then some w else storeGet rest addr

/-- List a Word at an address, keeping the addresses in rising order. -/
def storeSet : List WordCell → Nat → Word → List WordCell
  | [], addr, v => [(addr, v)]
  | (k, w) :: rest, addr, v =>
    if k < addr then (k, w) :: storeSet rest addr v
    else if k = addr then (addr, v) :: rest
    else (addr, v) :: (k, w) :: rest

/-- List nothing at an address. -/
def storeErase : List WordCell → Nat → List WordCell
  | [], _ => []
  | (k, w) :: rest, addr => if k = addr then storeErase rest addr else (k, w) :: storeErase rest addr

/-- The addresses rise strictly, the first of them is at least `low`, and every one is below `size`. -/
def risingFrom (size : Nat) : Nat → List WordCell → Bool
  | _, [] => true
  | low, (k, _) :: rest => decide (low ≤ k) && decide (k < size) && risingFrom size (k + 1) rest

/-- No location holds ZERO, what an unlisted data address reads as. -/
def noZero : List WordCell → Bool
  | [] => true
  | (_, w) :: rest => (w != 0#16) && noZero rest

/-- The canonical form of the data store's contents (log 6). -/
def Memory.wf (m : Memory) : Bool := risingFrom Config.ramSize 0 m && noZero m

/-- The canonical form of the program image; a present ZERO is an instruction (R44), so it is listed. -/
def Rom.wf (r : Rom) : Bool := risingFrom Config.romSize 0 r

/-! ### The two stores -/

/-- `MemRead(a)`: the Word last stored at a, ZERO if none was (R38). -/
def memRead (m : Memory) (addr : Word) : Word := (storeGet m addr.toNat).getD 0#16

/-- `MemWrite(a, v)` (R39): a location that holds ZERO is not listed. -/
def memWrite (m : Memory) (addr v : Word) : Memory :=
  if v = 0#16 then storeErase m addr.toNat else storeSet m addr.toNat v

/-- The data store's clocked operation: the write, if any, then the read into the output latch (R40). -/
def DataStore.process (r : DataStore) (address input : Word) (write : Bool) : DataStore :=
  let mem := if write then memWrite r.mem address input else r.mem
  { mem := mem, out := memRead mem address }

/-- `Fetch(a)`: present or absent, never a default (R44, C1). -/
def romFetch (r : Rom) (addr : Word) : Option Word := storeGet r addr.toNat

/-- The instruction store's plain `read` accessor, with the all-zero default; nothing in the CORE uses it (C1). -/
def romRead (r : Rom) (addr : Word) : Word := (romFetch r addr).getD 0#16

/-- The instruction store's `set`, which only the host uses, before the run (R45, R241). -/
def romSet (r : Rom) (addr v : Word) : Rom := storeSet r addr.toNat v

/-- The driver's fetch, at `PC.out` as the previous cycle left it (R98, D14). -/
def fetch (s : State) : Option Word := romFetch s.rom s.pc.out

/-! ### Storage elements -/

/-- A Register's `process`: expose the latched value, then latch the input if write = 1 (R88). -/
def registerProcess (r : Storage) (write : Bool) (input : Word) : Storage :=
  { reg := if write then input else r.reg, out := r.reg }

/-- The output the PC's `process` commits: the pending value, forced to ZERO by reset (R91). -/
def pcOutput (p : Storage) (reset : Bool) : Word := if reset then 0#16 else p.reg

/-- The ProgramCounter's `process`: reset, then load, then increment of the committed output (R91, R92; D5, log 8). -/
def pcProcess (p : Storage) (reset load : Bool) (input : Word) : Storage :=
  { reg := if load then input else adder (pcOutput p reset) 1#16, out := pcOutput p reset }

/-! ### The cycle -/

/-- The control lines an instruction drives: I⟨0⟩, the Word I itself, I⟨3⟩, I⟨4⟩ to I⟨9⟩, I⟨10⟩ to I⟨12⟩ and I⟨13⟩ to I⟨15⟩. -/
structure Control where
  isC : Bool
  word : Word
  a : Bool
  alu : AluControl
  d : Dest
  j : Jump
  deriving DecidableEq, Repr

/-- Steps 1 and 2: A's input is the Word of an A-instruction, else the previous ALU output; A is always written by an
A-instruction, and by a C-instruction with dA = 1 (R99, R100). -/
def clockA (c : Control) (prev : Word) (s : State) : State :=
  s.withA (registerProcess s.a (!c.isC || c.d.dA) (mux c.word prev c.isC))

/-- Step 3: the ALU's y operand, A.out or inM (R101). -/
def yOperand (c : Control) (inM : Word) (s : State) : Word := mux s.a.out inM c.a

/-- Step 4: D receives the previous ALU output, always in an A-instruction and with dD = 1 in a C-instruction (R102). -/
def clockD (c : Control) (prev : Word) (s : State) : State :=
  s.withD (registerProcess s.d (!c.isC || c.d.dD) prev)

/-- Step 5: the ALU with x = D.out (R103). -/
def runAlu (c : Control) (y : Word) (s : State) : State := s.withAlu (alu s.d.out y c.alu)

/-- Steps 7 and 8: the PC, loaded with A.out when the jump is taken (R105, R106). -/
def clockPc (c : Control) (s : State) : State :=
  s.withPc (pcProcess s.pc s.resetIn (jumpDecision c.isC c.j s.alu.zr s.alu.ng) s.a.out)

/-- Step 6 and the data store, once in every cycle: outM = ALU.out, addressM = A.out, writeM = I⟨12⟩ for both formats (R104,
R107, D13). -/
def clockRam (c : Control) (s : State) : State :=
  s.withRam (s.ram.process s.a.out s.alu.out c.d.dM)

/-- One cycle of the CPU and the data store after a fetch, in the order of R97. -/
def cycle (c : Control) (s : State) : State :=
  let inM := s.ram.out
  let prev := s.alu.out
  let s := clockA c prev s
  let y := yOperand c inM s
  let s := clockD c prev s
  let s := runAlu c y s
  let s := clockPc c s
  clockRam c s

/-- The lines of an A-instruction: every bit of the Word is wired as in a C-instruction (R63); I⟨0⟩ = 0 forces the writes of A and D
and gates the jump off. -/
def aControl (v : Word) : Control :=
  { isC := false, word := v, a := wordBit v 3, alu := aluControlOf v, d := destOf v, j := jumpOf v }

/-- The lines of a C-instruction (R65, R126). -/
def cControl (u : BitVec 2) (a : Bool) (c : BitVec 6) (d : Dest) (j : Jump) : Control :=
  { isC := true, word := cWord u a c d j, a := a, alu := aluCode c, d := d, j := j }

/-- Every A-instruction: one complete cycle (R110, R117). -/
def aInstruction (v : Word) (s : State) : Host.Outcome State Fault Refusal := .next (cycle (aControl v) s)

/-- Every C-instruction: one complete cycle (R110, R126). -/
def cInstruction (u : BitVec 2) (a : Bool) (c : BitVec 6) (d : Dest) (j : Jump) (s : State) :
    Host.Outcome State Fault Refusal :=
  .next (cycle (cControl u a c d j) s)

/-- What the driver does on an absent fetch: it sets halted and changes nothing else (R114; log 7). -/
def haltRun (s : State) : Host.Outcome State Fault Refusal := .next (s.withHalted true)

/-- What a step of a halted machine does: nothing (R97, D16; log 7). -/
def stayHalted (s : State) : Host.Outcome State Fault Refusal := .next s

end Sys2Proof.Machine
end

