-- ==== Sys2Proof/Machine/AInstruction.lean ====
section
/-! DEFINITION. The meaning of the A-instruction (43_a_instruction.md). -/

namespace Sys2Proof.Machine

/-- `@v`: A receives the Word v, D the previous ALU output; the ALU runs on v's bits; v's bit ⟨12⟩ stores; no jump (R117 to R124,
UNVERIFIED by the source itself, N17, log 15). -/
def execAtV (v : Word) (s : State) : Host.Outcome State Fault Refusal :=
  aInstruction v s

end Sys2Proof.Machine
end

