-- ==== Sys2Proof/Machine/Arithmetic.lean ====
section
/-! DEFINITION. Meanings: the C-instructions whose control code computes an arithmetic function of x and y, modulo 2^16
(45_alu_codes.md). Each is the cycle of R126 with the code and the a bit of its row. -/

namespace Sys2Proof.Machine

/-- `D+A`: x+y, y = A.out (R148, R126). -/
def execC000010a0 (u : BitVec 2) (d : Dest) (j : Jump) (s : State) : Host.Outcome State Fault Refusal :=
  cInstruction u false 0b000010#6 d j s

/-- `alu_c_000011_a_0`: Not(x+y) = -x-y-1, y = A.out (R149, R126). -/
def execC000011a0 (u : BitVec 2) (d : Dest) (j : Jump) (s : State) : Host.Outcome State Fault Refusal :=
  cInstruction u false 0b000011#6 d j s

/-- `alu_c_000110_a_0`: x-y-1, y = A.out (R152, R126). -/
def execC000110a0 (u : BitVec 2) (d : Dest) (j : Jump) (s : State) : Host.Outcome State Fault Refusal :=
  cInstruction u false 0b000110#6 d j s

/-- `A-D`: y-x, y = A.out (R153, R126). -/
def execC000111a0 (u : BitVec 2) (d : Dest) (j : Jump) (s : State) : Host.Outcome State Fault Refusal :=
  cInstruction u false 0b000111#6 d j s

/-- `alu_c_010010_a_0`: y-x-1, y = A.out (R164, R126). -/
def execC010010a0 (u : BitVec 2) (d : Dest) (j : Jump) (s : State) : Host.Outcome State Fault Refusal :=
  cInstruction u false 0b010010#6 d j s

/-- `D-A`: x-y, y = A.out (R165, R126). -/
def execC010011a0 (u : BitVec 2) (d : Dest) (j : Jump) (s : State) : Host.Outcome State Fault Refusal :=
  cInstruction u false 0b010011#6 d j s

/-- `alu_c_010110_a_0`: -x-y-2, y = A.out (R168, R126). -/
def execC010110a0 (u : BitVec 2) (d : Dest) (j : Jump) (s : State) : Host.Outcome State Fault Refusal :=
  cInstruction u false 0b010110#6 d j s

/-- `alu_c_010111_a_0`: x+y+1, y = A.out (R169, R126). -/
def execC010111a0 (u : BitVec 2) (d : Dest) (j : Jump) (s : State) : Host.Outcome State Fault Refusal :=
  cInstruction u false 0b010111#6 d j s

/-- `D+M`: x+y, y = inM (R148, R126). -/
def execC000010a1 (u : BitVec 2) (d : Dest) (j : Jump) (s : State) : Host.Outcome State Fault Refusal :=
  cInstruction u true 0b000010#6 d j s

/-- `alu_c_000011_a_1`: Not(x+y) = -x-y-1, y = inM (R149, R126). -/
def execC000011a1 (u : BitVec 2) (d : Dest) (j : Jump) (s : State) : Host.Outcome State Fault Refusal :=
  cInstruction u true 0b000011#6 d j s

/-- `alu_c_000110_a_1`: x-y-1, y = inM (R152, R126). -/
def execC000110a1 (u : BitVec 2) (d : Dest) (j : Jump) (s : State) : Host.Outcome State Fault Refusal :=
  cInstruction u true 0b000110#6 d j s

/-- `M-D`: y-x, y = inM (R153, R126). -/
def execC000111a1 (u : BitVec 2) (d : Dest) (j : Jump) (s : State) : Host.Outcome State Fault Refusal :=
  cInstruction u true 0b000111#6 d j s

/-- `alu_c_010010_a_1`: y-x-1, y = inM (R164, R126). -/
def execC010010a1 (u : BitVec 2) (d : Dest) (j : Jump) (s : State) : Host.Outcome State Fault Refusal :=
  cInstruction u true 0b010010#6 d j s

/-- `D-M`: x-y, y = inM (R165, R126). -/
def execC010011a1 (u : BitVec 2) (d : Dest) (j : Jump) (s : State) : Host.Outcome State Fault Refusal :=
  cInstruction u true 0b010011#6 d j s

/-- `alu_c_010110_a_1`: -x-y-2, y = inM (R168, R126). -/
def execC010110a1 (u : BitVec 2) (d : Dest) (j : Jump) (s : State) : Host.Outcome State Fault Refusal :=
  cInstruction u true 0b010110#6 d j s

/-- `alu_c_010111_a_1`: x+y+1, y = inM (R169, R126). -/
def execC010111a1 (u : BitVec 2) (d : Dest) (j : Jump) (s : State) : Host.Outcome State Fault Refusal :=
  cInstruction u true 0b010111#6 d j s

end Sys2Proof.Machine
end

