-- ==== Sys2Proof/Machine/Constants.lean ====
section
/-! DEFINITION. Meanings: the C-instructions whose control code computes a constant: ZERO, ONES, ONE or -2
(45_alu_codes.md). Each is the cycle of R126 with the code and the a bit of its row. -/

namespace Sys2Proof.Machine

/-- `alu_c_001000_a_0`: ZERO (0), y = A.out (R154, R126). -/
def execC001000a0 (u : BitVec 2) (d : Dest) (j : Jump) (s : State) : Host.Outcome State Fault Refusal :=
  cInstruction u false 0b001000#6 d j s

/-- `alu_c_001001_a_0`: ONES (-1), y = A.out (R155, R126). -/
def execC001001a0 (u : BitVec 2) (d : Dest) (j : Jump) (s : State) : Host.Outcome State Fault Refusal :=
  cInstruction u false 0b001001#6 d j s

/-- `alu_c_011000_a_0`: ZERO (0), y = A.out (R170, R126). -/
def execC011000a0 (u : BitVec 2) (d : Dest) (j : Jump) (s : State) : Host.Outcome State Fault Refusal :=
  cInstruction u false 0b011000#6 d j s

/-- `alu_c_011001_a_0`: ONES (-1), y = A.out (R171, R126). -/
def execC011001a0 (u : BitVec 2) (d : Dest) (j : Jump) (s : State) : Host.Outcome State Fault Refusal :=
  cInstruction u false 0b011001#6 d j s

/-- `alu_c_100000_a_0`: ZERO (0), y = A.out (R178, R126). -/
def execC100000a0 (u : BitVec 2) (d : Dest) (j : Jump) (s : State) : Host.Outcome State Fault Refusal :=
  cInstruction u false 0b100000#6 d j s

/-- `alu_c_100001_a_0`: ONES (-1), y = A.out (R179, R126). -/
def execC100001a0 (u : BitVec 2) (d : Dest) (j : Jump) (s : State) : Host.Outcome State Fault Refusal :=
  cInstruction u false 0b100001#6 d j s

/-- `alu_c_100100_a_0`: ZERO (0), y = A.out (R182, R126). -/
def execC100100a0 (u : BitVec 2) (d : Dest) (j : Jump) (s : State) : Host.Outcome State Fault Refusal :=
  cInstruction u false 0b100100#6 d j s

/-- `alu_c_100101_a_0`: ONES (-1), y = A.out (R183, R126). -/
def execC100101a0 (u : BitVec 2) (d : Dest) (j : Jump) (s : State) : Host.Outcome State Fault Refusal :=
  cInstruction u false 0b100101#6 d j s

/-- `alu_c_101000_a_0`: ZERO (0), y = A.out (R186, R126). -/
def execC101000a0 (u : BitVec 2) (d : Dest) (j : Jump) (s : State) : Host.Outcome State Fault Refusal :=
  cInstruction u false 0b101000#6 d j s

/-- `alu_c_101001_a_0`: ONES (-1), y = A.out (R187, R126). -/
def execC101001a0 (u : BitVec 2) (d : Dest) (j : Jump) (s : State) : Host.Outcome State Fault Refusal :=
  cInstruction u false 0b101001#6 d j s

/-- `0`: ZERO (0), y = A.out (R188, R126). -/
def execC101010a0 (u : BitVec 2) (d : Dest) (j : Jump) (s : State) : Host.Outcome State Fault Refusal :=
  cInstruction u false 0b101010#6 d j s

/-- `alu_c_101011_a_0`: ONES (-1), y = A.out (R189, R126). -/
def execC101011a0 (u : BitVec 2) (d : Dest) (j : Jump) (s : State) : Host.Outcome State Fault Refusal :=
  cInstruction u false 0b101011#6 d j s

/-- `alu_c_101100_a_0`: ZERO (0), y = A.out (R190, R126). -/
def execC101100a0 (u : BitVec 2) (d : Dest) (j : Jump) (s : State) : Host.Outcome State Fault Refusal :=
  cInstruction u false 0b101100#6 d j s

/-- `alu_c_101101_a_0`: ONES (-1), y = A.out (R191, R126). -/
def execC101101a0 (u : BitVec 2) (d : Dest) (j : Jump) (s : State) : Host.Outcome State Fault Refusal :=
  cInstruction u false 0b101101#6 d j s

/-- `alu_c_101110_a_0`: ONES (-1), y = A.out (R192, R126). -/
def execC101110a0 (u : BitVec 2) (d : Dest) (j : Jump) (s : State) : Host.Outcome State Fault Refusal :=
  cInstruction u false 0b101110#6 d j s

/-- `alu_c_101111_a_0`: ZERO (0), y = A.out (R193, R126). -/
def execC101111a0 (u : BitVec 2) (d : Dest) (j : Jump) (s : State) : Host.Outcome State Fault Refusal :=
  cInstruction u false 0b101111#6 d j s

/-- `alu_c_111000_a_0`: ZERO (0), y = A.out (R202, R126). -/
def execC111000a0 (u : BitVec 2) (d : Dest) (j : Jump) (s : State) : Host.Outcome State Fault Refusal :=
  cInstruction u false 0b111000#6 d j s

/-- `alu_c_111001_a_0`: ONES (-1), y = A.out (R203, R126). -/
def execC111001a0 (u : BitVec 2) (d : Dest) (j : Jump) (s : State) : Host.Outcome State Fault Refusal :=
  cInstruction u false 0b111001#6 d j s

/-- `-1`: ONES (-1), y = A.out (R204, R126). -/
def execC111010a0 (u : BitVec 2) (d : Dest) (j : Jump) (s : State) : Host.Outcome State Fault Refusal :=
  cInstruction u false 0b111010#6 d j s

/-- `alu_c_111011_a_0`: ZERO (0), y = A.out (R205, R126). -/
def execC111011a0 (u : BitVec 2) (d : Dest) (j : Jump) (s : State) : Host.Outcome State Fault Refusal :=
  cInstruction u false 0b111011#6 d j s

/-- `alu_c_111100_a_0`: ONES (-1), y = A.out (R206, R126). -/
def execC111100a0 (u : BitVec 2) (d : Dest) (j : Jump) (s : State) : Host.Outcome State Fault Refusal :=
  cInstruction u false 0b111100#6 d j s

/-- `alu_c_111101_a_0`: ZERO (0), y = A.out (R207, R126). -/
def execC111101a0 (u : BitVec 2) (d : Dest) (j : Jump) (s : State) : Host.Outcome State Fault Refusal :=
  cInstruction u false 0b111101#6 d j s

/-- `alu_c_111110_a_0`: -2 (0xFFFE), y = A.out (R208, R126). -/
def execC111110a0 (u : BitVec 2) (d : Dest) (j : Jump) (s : State) : Host.Outcome State Fault Refusal :=
  cInstruction u false 0b111110#6 d j s

/-- `1`: ONE (1), y = A.out (R209, R126). -/
def execC111111a0 (u : BitVec 2) (d : Dest) (j : Jump) (s : State) : Host.Outcome State Fault Refusal :=
  cInstruction u false 0b111111#6 d j s

/-- `alu_c_001000_a_1`: ZERO (0), y = inM (R154, R126). -/
def execC001000a1 (u : BitVec 2) (d : Dest) (j : Jump) (s : State) : Host.Outcome State Fault Refusal :=
  cInstruction u true 0b001000#6 d j s

/-- `alu_c_001001_a_1`: ONES (-1), y = inM (R155, R126). -/
def execC001001a1 (u : BitVec 2) (d : Dest) (j : Jump) (s : State) : Host.Outcome State Fault Refusal :=
  cInstruction u true 0b001001#6 d j s

/-- `alu_c_011000_a_1`: ZERO (0), y = inM (R170, R126). -/
def execC011000a1 (u : BitVec 2) (d : Dest) (j : Jump) (s : State) : Host.Outcome State Fault Refusal :=
  cInstruction u true 0b011000#6 d j s

/-- `alu_c_011001_a_1`: ONES (-1), y = inM (R171, R126). -/
def execC011001a1 (u : BitVec 2) (d : Dest) (j : Jump) (s : State) : Host.Outcome State Fault Refusal :=
  cInstruction u true 0b011001#6 d j s

/-- `alu_c_100000_a_1`: ZERO (0), y = inM (R178, R126). -/
def execC100000a1 (u : BitVec 2) (d : Dest) (j : Jump) (s : State) : Host.Outcome State Fault Refusal :=
  cInstruction u true 0b100000#6 d j s

/-- `alu_c_100001_a_1`: ONES (-1), y = inM (R179, R126). -/
def execC100001a1 (u : BitVec 2) (d : Dest) (j : Jump) (s : State) : Host.Outcome State Fault Refusal :=
  cInstruction u true 0b100001#6 d j s

/-- `alu_c_100100_a_1`: ZERO (0), y = inM (R182, R126). -/
def execC100100a1 (u : BitVec 2) (d : Dest) (j : Jump) (s : State) : Host.Outcome State Fault Refusal :=
  cInstruction u true 0b100100#6 d j s

/-- `alu_c_100101_a_1`: ONES (-1), y = inM (R183, R126). -/
def execC100101a1 (u : BitVec 2) (d : Dest) (j : Jump) (s : State) : Host.Outcome State Fault Refusal :=
  cInstruction u true 0b100101#6 d j s

/-- `alu_c_101000_a_1`: ZERO (0), y = inM (R186, R126). -/
def execC101000a1 (u : BitVec 2) (d : Dest) (j : Jump) (s : State) : Host.Outcome State Fault Refusal :=
  cInstruction u true 0b101000#6 d j s

/-- `alu_c_101001_a_1`: ONES (-1), y = inM (R187, R126). -/
def execC101001a1 (u : BitVec 2) (d : Dest) (j : Jump) (s : State) : Host.Outcome State Fault Refusal :=
  cInstruction u true 0b101001#6 d j s

/-- `alu_c_101010_a_1`: ZERO (0), y = inM (R188, R126). -/
def execC101010a1 (u : BitVec 2) (d : Dest) (j : Jump) (s : State) : Host.Outcome State Fault Refusal :=
  cInstruction u true 0b101010#6 d j s

/-- `alu_c_101011_a_1`: ONES (-1), y = inM (R189, R126). -/
def execC101011a1 (u : BitVec 2) (d : Dest) (j : Jump) (s : State) : Host.Outcome State Fault Refusal :=
  cInstruction u true 0b101011#6 d j s

/-- `alu_c_101100_a_1`: ZERO (0), y = inM (R190, R126). -/
def execC101100a1 (u : BitVec 2) (d : Dest) (j : Jump) (s : State) : Host.Outcome State Fault Refusal :=
  cInstruction u true 0b101100#6 d j s

/-- `alu_c_101101_a_1`: ONES (-1), y = inM (R191, R126). -/
def execC101101a1 (u : BitVec 2) (d : Dest) (j : Jump) (s : State) : Host.Outcome State Fault Refusal :=
  cInstruction u true 0b101101#6 d j s

/-- `alu_c_101110_a_1`: ONES (-1), y = inM (R192, R126). -/
def execC101110a1 (u : BitVec 2) (d : Dest) (j : Jump) (s : State) : Host.Outcome State Fault Refusal :=
  cInstruction u true 0b101110#6 d j s

/-- `alu_c_101111_a_1`: ZERO (0), y = inM (R193, R126). -/
def execC101111a1 (u : BitVec 2) (d : Dest) (j : Jump) (s : State) : Host.Outcome State Fault Refusal :=
  cInstruction u true 0b101111#6 d j s

/-- `alu_c_111000_a_1`: ZERO (0), y = inM (R202, R126). -/
def execC111000a1 (u : BitVec 2) (d : Dest) (j : Jump) (s : State) : Host.Outcome State Fault Refusal :=
  cInstruction u true 0b111000#6 d j s

/-- `alu_c_111001_a_1`: ONES (-1), y = inM (R203, R126). -/
def execC111001a1 (u : BitVec 2) (d : Dest) (j : Jump) (s : State) : Host.Outcome State Fault Refusal :=
  cInstruction u true 0b111001#6 d j s

/-- `alu_c_111010_a_1`: ONES (-1), y = inM (R204, R126). -/
def execC111010a1 (u : BitVec 2) (d : Dest) (j : Jump) (s : State) : Host.Outcome State Fault Refusal :=
  cInstruction u true 0b111010#6 d j s

/-- `alu_c_111011_a_1`: ZERO (0), y = inM (R205, R126). -/
def execC111011a1 (u : BitVec 2) (d : Dest) (j : Jump) (s : State) : Host.Outcome State Fault Refusal :=
  cInstruction u true 0b111011#6 d j s

/-- `alu_c_111100_a_1`: ONES (-1), y = inM (R206, R126). -/
def execC111100a1 (u : BitVec 2) (d : Dest) (j : Jump) (s : State) : Host.Outcome State Fault Refusal :=
  cInstruction u true 0b111100#6 d j s

/-- `alu_c_111101_a_1`: ZERO (0), y = inM (R207, R126). -/
def execC111101a1 (u : BitVec 2) (d : Dest) (j : Jump) (s : State) : Host.Outcome State Fault Refusal :=
  cInstruction u true 0b111101#6 d j s

/-- `alu_c_111110_a_1`: -2 (0xFFFE), y = inM (R208, R126). -/
def execC111110a1 (u : BitVec 2) (d : Dest) (j : Jump) (s : State) : Host.Outcome State Fault Refusal :=
  cInstruction u true 0b111110#6 d j s

/-- `alu_c_111111_a_1`: ONE (1), y = inM (R209, R126). -/
def execC111111a1 (u : BitVec 2) (d : Dest) (j : Jump) (s : State) : Host.Outcome State Fault Refusal :=
  cInstruction u true 0b111111#6 d j s

end Sys2Proof.Machine
end

