-- ==== Sys2Proof/Machine/DFunctions.lean ====
section
/-! DEFINITION. Meanings: the C-instructions whose control code computes a function of x, the D register, alone
(45_alu_codes.md). Each is the cycle of R126 with the code and the a bit of its row. -/

namespace Sys2Proof.Machine

/-- `alu_c_001010_a_0`: x, y = A.out (R156, R126). -/
def execC001010a0 (u : BitVec 2) (d : Dest) (j : Jump) (s : State) : Host.Outcome State Fault Refusal :=
  cInstruction u false 0b001010#6 d j s

/-- `alu_c_001011_a_0`: Not(x) = -x-1, y = A.out (R157, R126). -/
def execC001011a0 (u : BitVec 2) (d : Dest) (j : Jump) (s : State) : Host.Outcome State Fault Refusal :=
  cInstruction u false 0b001011#6 d j s

/-- `D`: x, y = A.out (R158, R126). -/
def execC001100a0 (u : BitVec 2) (d : Dest) (j : Jump) (s : State) : Host.Outcome State Fault Refusal :=
  cInstruction u false 0b001100#6 d j s

/-- `!D`: Not(x) = -x-1, y = A.out (R159, R126). -/
def execC001101a0 (u : BitVec 2) (d : Dest) (j : Jump) (s : State) : Host.Outcome State Fault Refusal :=
  cInstruction u false 0b001101#6 d j s

/-- `D-1`: x-1, y = A.out (R160, R126). -/
def execC001110a0 (u : BitVec 2) (d : Dest) (j : Jump) (s : State) : Host.Outcome State Fault Refusal :=
  cInstruction u false 0b001110#6 d j s

/-- `-D`: -x, y = A.out (R161, R126). -/
def execC001111a0 (u : BitVec 2) (d : Dest) (j : Jump) (s : State) : Host.Outcome State Fault Refusal :=
  cInstruction u false 0b001111#6 d j s

/-- `alu_c_011010_a_0`: Not(x) = -x-1, y = A.out (R172, R126). -/
def execC011010a0 (u : BitVec 2) (d : Dest) (j : Jump) (s : State) : Host.Outcome State Fault Refusal :=
  cInstruction u false 0b011010#6 d j s

/-- `alu_c_011011_a_0`: x, y = A.out (R173, R126). -/
def execC011011a0 (u : BitVec 2) (d : Dest) (j : Jump) (s : State) : Host.Outcome State Fault Refusal :=
  cInstruction u false 0b011011#6 d j s

/-- `alu_c_011100_a_0`: Not(x) = -x-1, y = A.out (R174, R126). -/
def execC011100a0 (u : BitVec 2) (d : Dest) (j : Jump) (s : State) : Host.Outcome State Fault Refusal :=
  cInstruction u false 0b011100#6 d j s

/-- `alu_c_011101_a_0`: x, y = A.out (R175, R126). -/
def execC011101a0 (u : BitVec 2) (d : Dest) (j : Jump) (s : State) : Host.Outcome State Fault Refusal :=
  cInstruction u false 0b011101#6 d j s

/-- `alu_c_011110_a_0`: -x-2, y = A.out (R176, R126). -/
def execC011110a0 (u : BitVec 2) (d : Dest) (j : Jump) (s : State) : Host.Outcome State Fault Refusal :=
  cInstruction u false 0b011110#6 d j s

/-- `D+1`: x+1, y = A.out (R177, R126). -/
def execC011111a0 (u : BitVec 2) (d : Dest) (j : Jump) (s : State) : Host.Outcome State Fault Refusal :=
  cInstruction u false 0b011111#6 d j s

/-- `alu_c_001010_a_1`: x, y = inM (R156, R126). -/
def execC001010a1 (u : BitVec 2) (d : Dest) (j : Jump) (s : State) : Host.Outcome State Fault Refusal :=
  cInstruction u true 0b001010#6 d j s

/-- `alu_c_001011_a_1`: Not(x) = -x-1, y = inM (R157, R126). -/
def execC001011a1 (u : BitVec 2) (d : Dest) (j : Jump) (s : State) : Host.Outcome State Fault Refusal :=
  cInstruction u true 0b001011#6 d j s

/-- `alu_c_001100_a_1`: x, y = inM (R158, R126). -/
def execC001100a1 (u : BitVec 2) (d : Dest) (j : Jump) (s : State) : Host.Outcome State Fault Refusal :=
  cInstruction u true 0b001100#6 d j s

/-- `alu_c_001101_a_1`: Not(x) = -x-1, y = inM (R159, R126). -/
def execC001101a1 (u : BitVec 2) (d : Dest) (j : Jump) (s : State) : Host.Outcome State Fault Refusal :=
  cInstruction u true 0b001101#6 d j s

/-- `alu_c_001110_a_1`: x-1, y = inM (R160, R126). -/
def execC001110a1 (u : BitVec 2) (d : Dest) (j : Jump) (s : State) : Host.Outcome State Fault Refusal :=
  cInstruction u true 0b001110#6 d j s

/-- `alu_c_001111_a_1`: -x, y = inM (R161, R126). -/
def execC001111a1 (u : BitVec 2) (d : Dest) (j : Jump) (s : State) : Host.Outcome State Fault Refusal :=
  cInstruction u true 0b001111#6 d j s

/-- `alu_c_011010_a_1`: Not(x) = -x-1, y = inM (R172, R126). -/
def execC011010a1 (u : BitVec 2) (d : Dest) (j : Jump) (s : State) : Host.Outcome State Fault Refusal :=
  cInstruction u true 0b011010#6 d j s

/-- `alu_c_011011_a_1`: x, y = inM (R173, R126). -/
def execC011011a1 (u : BitVec 2) (d : Dest) (j : Jump) (s : State) : Host.Outcome State Fault Refusal :=
  cInstruction u true 0b011011#6 d j s

/-- `alu_c_011100_a_1`: Not(x) = -x-1, y = inM (R174, R126). -/
def execC011100a1 (u : BitVec 2) (d : Dest) (j : Jump) (s : State) : Host.Outcome State Fault Refusal :=
  cInstruction u true 0b011100#6 d j s

/-- `alu_c_011101_a_1`: x, y = inM (R175, R126). -/
def execC011101a1 (u : BitVec 2) (d : Dest) (j : Jump) (s : State) : Host.Outcome State Fault Refusal :=
  cInstruction u true 0b011101#6 d j s

/-- `alu_c_011110_a_1`: -x-2, y = inM (R176, R126). -/
def execC011110a1 (u : BitVec 2) (d : Dest) (j : Jump) (s : State) : Host.Outcome State Fault Refusal :=
  cInstruction u true 0b011110#6 d j s

/-- `alu_c_011111_a_1`: x+1, y = inM (R177, R126). -/
def execC011111a1 (u : BitVec 2) (d : Dest) (j : Jump) (s : State) : Host.Outcome State Fault Refusal :=
  cInstruction u true 0b011111#6 d j s

end Sys2Proof.Machine
end

