-- ==== Sys2Proof/Machine/Logic.lean ====
section
/-! DEFINITION. Meanings: the C-instructions whose control code computes a bitwise function of x and y
(45_alu_codes.md). Each is the cycle of R126 with the code and the a bit of its row. -/

namespace Sys2Proof.Machine

/-- `D&A`: And(x, y), y = A.out (R146, R126). -/
def execC000000a0 (u : BitVec 2) (d : Dest) (j : Jump) (s : State) : Host.Outcome State Fault Refusal :=
  cInstruction u false 0b000000#6 d j s

/-- `alu_c_000001_a_0`: Not(And(x, y)), y = A.out (R147, R126). -/
def execC000001a0 (u : BitVec 2) (d : Dest) (j : Jump) (s : State) : Host.Outcome State Fault Refusal :=
  cInstruction u false 0b000001#6 d j s

/-- `alu_c_000100_a_0`: And(x, Not(y)), y = A.out (R150, R126). -/
def execC000100a0 (u : BitVec 2) (d : Dest) (j : Jump) (s : State) : Host.Outcome State Fault Refusal :=
  cInstruction u false 0b000100#6 d j s

/-- `alu_c_000101_a_0`: Or(Not(x), y), y = A.out (R151, R126). -/
def execC000101a0 (u : BitVec 2) (d : Dest) (j : Jump) (s : State) : Host.Outcome State Fault Refusal :=
  cInstruction u false 0b000101#6 d j s

/-- `alu_c_010000_a_0`: And(Not(x), y), y = A.out (R162, R126). -/
def execC010000a0 (u : BitVec 2) (d : Dest) (j : Jump) (s : State) : Host.Outcome State Fault Refusal :=
  cInstruction u false 0b010000#6 d j s

/-- `alu_c_010001_a_0`: Or(x, Not(y)), y = A.out (R163, R126). -/
def execC010001a0 (u : BitVec 2) (d : Dest) (j : Jump) (s : State) : Host.Outcome State Fault Refusal :=
  cInstruction u false 0b010001#6 d j s

/-- `alu_c_010100_a_0`: Not(Or(x, y)), y = A.out (R166, R126). -/
def execC010100a0 (u : BitVec 2) (d : Dest) (j : Jump) (s : State) : Host.Outcome State Fault Refusal :=
  cInstruction u false 0b010100#6 d j s

/-- `D|A`: Or(x, y), y = A.out (R167, R126). -/
def execC010101a0 (u : BitVec 2) (d : Dest) (j : Jump) (s : State) : Host.Outcome State Fault Refusal :=
  cInstruction u false 0b010101#6 d j s

/-- `D&M`: And(x, y), y = inM (R146, R126). -/
def execC000000a1 (u : BitVec 2) (d : Dest) (j : Jump) (s : State) : Host.Outcome State Fault Refusal :=
  cInstruction u true 0b000000#6 d j s

/-- `alu_c_000001_a_1`: Not(And(x, y)), y = inM (R147, R126). -/
def execC000001a1 (u : BitVec 2) (d : Dest) (j : Jump) (s : State) : Host.Outcome State Fault Refusal :=
  cInstruction u true 0b000001#6 d j s

/-- `alu_c_000100_a_1`: And(x, Not(y)), y = inM (R150, R126). -/
def execC000100a1 (u : BitVec 2) (d : Dest) (j : Jump) (s : State) : Host.Outcome State Fault Refusal :=
  cInstruction u true 0b000100#6 d j s

/-- `alu_c_000101_a_1`: Or(Not(x), y), y = inM (R151, R126). -/
def execC000101a1 (u : BitVec 2) (d : Dest) (j : Jump) (s : State) : Host.Outcome State Fault Refusal :=
  cInstruction u true 0b000101#6 d j s

/-- `alu_c_010000_a_1`: And(Not(x), y), y = inM (R162, R126). -/
def execC010000a1 (u : BitVec 2) (d : Dest) (j : Jump) (s : State) : Host.Outcome State Fault Refusal :=
  cInstruction u true 0b010000#6 d j s

/-- `alu_c_010001_a_1`: Or(x, Not(y)), y = inM (R163, R126). -/
def execC010001a1 (u : BitVec 2) (d : Dest) (j : Jump) (s : State) : Host.Outcome State Fault Refusal :=
  cInstruction u true 0b010001#6 d j s

/-- `alu_c_010100_a_1`: Not(Or(x, y)), y = inM (R166, R126). -/
def execC010100a1 (u : BitVec 2) (d : Dest) (j : Jump) (s : State) : Host.Outcome State Fault Refusal :=
  cInstruction u true 0b010100#6 d j s

/-- `D|M`: Or(x, y), y = inM (R167, R126). -/
def execC010101a1 (u : BitVec 2) (d : Dest) (j : Jump) (s : State) : Host.Outcome State Fault Refusal :=
  cInstruction u true 0b010101#6 d j s

end Sys2Proof.Machine
end

