-- ==== Sys2Proof/Machine/YFunctions.lean ====
section
/-! DEFINITION. Meanings: the C-instructions whose control code computes a function of y, the A register or inM, alone
(45_alu_codes.md). Each is the cycle of R126 with the code and the a bit of its row. -/

namespace Sys2Proof.Machine

/-- `alu_c_100010_a_0`: y, y = A.out (R180, R126). -/
def execC100010a0 (u : BitVec 2) (d : Dest) (j : Jump) (s : State) : Host.Outcome State Fault Refusal :=
  cInstruction u false 0b100010#6 d j s

/-- `alu_c_100011_a_0`: Not(y) = -y-1, y = A.out (R181, R126). -/
def execC100011a0 (u : BitVec 2) (d : Dest) (j : Jump) (s : State) : Host.Outcome State Fault Refusal :=
  cInstruction u false 0b100011#6 d j s

/-- `alu_c_100110_a_0`: Not(y) = -y-1, y = A.out (R184, R126). -/
def execC100110a0 (u : BitVec 2) (d : Dest) (j : Jump) (s : State) : Host.Outcome State Fault Refusal :=
  cInstruction u false 0b100110#6 d j s

/-- `alu_c_100111_a_0`: y, y = A.out (R185, R126). -/
def execC100111a0 (u : BitVec 2) (d : Dest) (j : Jump) (s : State) : Host.Outcome State Fault Refusal :=
  cInstruction u false 0b100111#6 d j s

/-- `A`: y, y = A.out (R194, R126). -/
def execC110000a0 (u : BitVec 2) (d : Dest) (j : Jump) (s : State) : Host.Outcome State Fault Refusal :=
  cInstruction u false 0b110000#6 d j s

/-- `!A`: Not(y) = -y-1, y = A.out (R195, R126). -/
def execC110001a0 (u : BitVec 2) (d : Dest) (j : Jump) (s : State) : Host.Outcome State Fault Refusal :=
  cInstruction u false 0b110001#6 d j s

/-- `A-1`: y-1, y = A.out (R196, R126). -/
def execC110010a0 (u : BitVec 2) (d : Dest) (j : Jump) (s : State) : Host.Outcome State Fault Refusal :=
  cInstruction u false 0b110010#6 d j s

/-- `-A`: -y, y = A.out (R197, R126). -/
def execC110011a0 (u : BitVec 2) (d : Dest) (j : Jump) (s : State) : Host.Outcome State Fault Refusal :=
  cInstruction u false 0b110011#6 d j s

/-- `alu_c_110100_a_0`: Not(y) = -y-1, y = A.out (R198, R126). -/
def execC110100a0 (u : BitVec 2) (d : Dest) (j : Jump) (s : State) : Host.Outcome State Fault Refusal :=
  cInstruction u false 0b110100#6 d j s

/-- `alu_c_110101_a_0`: y, y = A.out (R199, R126). -/
def execC110101a0 (u : BitVec 2) (d : Dest) (j : Jump) (s : State) : Host.Outcome State Fault Refusal :=
  cInstruction u false 0b110101#6 d j s

/-- `alu_c_110110_a_0`: -y-2, y = A.out (R200, R126). -/
def execC110110a0 (u : BitVec 2) (d : Dest) (j : Jump) (s : State) : Host.Outcome State Fault Refusal :=
  cInstruction u false 0b110110#6 d j s

/-- `A+1`: y+1, y = A.out (R201, R126). -/
def execC110111a0 (u : BitVec 2) (d : Dest) (j : Jump) (s : State) : Host.Outcome State Fault Refusal :=
  cInstruction u false 0b110111#6 d j s

/-- `alu_c_100010_a_1`: y, y = inM (R180, R126). -/
def execC100010a1 (u : BitVec 2) (d : Dest) (j : Jump) (s : State) : Host.Outcome State Fault Refusal :=
  cInstruction u true 0b100010#6 d j s

/-- `alu_c_100011_a_1`: Not(y) = -y-1, y = inM (R181, R126). -/
def execC100011a1 (u : BitVec 2) (d : Dest) (j : Jump) (s : State) : Host.Outcome State Fault Refusal :=
  cInstruction u true 0b100011#6 d j s

/-- `alu_c_100110_a_1`: Not(y) = -y-1, y = inM (R184, R126). -/
def execC100110a1 (u : BitVec 2) (d : Dest) (j : Jump) (s : State) : Host.Outcome State Fault Refusal :=
  cInstruction u true 0b100110#6 d j s

/-- `alu_c_100111_a_1`: y, y = inM (R185, R126). -/
def execC100111a1 (u : BitVec 2) (d : Dest) (j : Jump) (s : State) : Host.Outcome State Fault Refusal :=
  cInstruction u true 0b100111#6 d j s

/-- `M`: y, y = inM (R194, R126). -/
def execC110000a1 (u : BitVec 2) (d : Dest) (j : Jump) (s : State) : Host.Outcome State Fault Refusal :=
  cInstruction u true 0b110000#6 d j s

/-- `!M`: Not(y) = -y-1, y = inM (R195, R126). -/
def execC110001a1 (u : BitVec 2) (d : Dest) (j : Jump) (s : State) : Host.Outcome State Fault Refusal :=
  cInstruction u true 0b110001#6 d j s

/-- `M-1`: y-1, y = inM (R196, R126). -/
def execC110010a1 (u : BitVec 2) (d : Dest) (j : Jump) (s : State) : Host.Outcome State Fault Refusal :=
  cInstruction u true 0b110010#6 d j s

/-- `-M`: -y, y = inM (R197, R126). -/
def execC110011a1 (u : BitVec 2) (d : Dest) (j : Jump) (s : State) : Host.Outcome State Fault Refusal :=
  cInstruction u true 0b110011#6 d j s

/-- `alu_c_110100_a_1`: Not(y) = -y-1, y = inM (R198, R126). -/
def execC110100a1 (u : BitVec 2) (d : Dest) (j : Jump) (s : State) : Host.Outcome State Fault Refusal :=
  cInstruction u true 0b110100#6 d j s

/-- `alu_c_110101_a_1`: y, y = inM (R199, R126). -/
def execC110101a1 (u : BitVec 2) (d : Dest) (j : Jump) (s : State) : Host.Outcome State Fault Refusal :=
  cInstruction u true 0b110101#6 d j s

/-- `alu_c_110110_a_1`: -y-2, y = inM (R200, R126). -/
def execC110110a1 (u : BitVec 2) (d : Dest) (j : Jump) (s : State) : Host.Outcome State Fault Refusal :=
  cInstruction u true 0b110110#6 d j s

/-- `M+1`: y+1, y = inM (R201, R126). -/
def execC110111a1 (u : BitVec 2) (d : Dest) (j : Jump) (s : State) : Host.Outcome State Fault Refusal :=
  cInstruction u true 0b110111#6 d j s

end Sys2Proof.Machine
end

