-- ==== Sys2Proof/Machine/Dispatch.lean ====
section
/-! DEFINITION. The dispatch: one arm per constructor of Instr, each a direct call of its meaning. -/

namespace Sys2Proof.Machine

def exec (i : Instr) (s : State) : Host.Outcome State Fault Refusal :=
  match i with
  | .atV v => Sys2Proof.Machine.execAtV v s
  | .c000000a0 u d j => Sys2Proof.Machine.execC000000a0 u d j s
  | .c000001a0 u d j => Sys2Proof.Machine.execC000001a0 u d j s
  | .c000010a0 u d j => Sys2Proof.Machine.execC000010a0 u d j s
  | .c000011a0 u d j => Sys2Proof.Machine.execC000011a0 u d j s
  | .c000100a0 u d j => Sys2Proof.Machine.execC000100a0 u d j s
  | .c000101a0 u d j => Sys2Proof.Machine.execC000101a0 u d j s
  | .c000110a0 u d j => Sys2Proof.Machine.execC000110a0 u d j s
  | .c000111a0 u d j => Sys2Proof.Machine.execC000111a0 u d j s
  | .c001000a0 u d j => Sys2Proof.Machine.execC001000a0 u d j s
  | .c001001a0 u d j => Sys2Proof.Machine.execC001001a0 u d j s
  | .c001010a0 u d j => Sys2Proof.Machine.execC001010a0 u d j s
  | .c001011a0 u d j => Sys2Proof.Machine.execC001011a0 u d j s
  | .c001100a0 u d j => Sys2Proof.Machine.execC001100a0 u d j s
  | .c001101a0 u d j => Sys2Proof.Machine.execC001101a0 u d j s
  | .c001110a0 u d j => Sys2Proof.Machine.execC001110a0 u d j s
  | .c001111a0 u d j => Sys2Proof.Machine.execC001111a0 u d j s
  | .c010000a0 u d j => Sys2Proof.Machine.execC010000a0 u d j s
  | .c010001a0 u d j => Sys2Proof.Machine.execC010001a0 u d j s
  | .c010010a0 u d j => Sys2Proof.Machine.execC010010a0 u d j s
  | .c010011a0 u d j => Sys2Proof.Machine.execC010011a0 u d j s
  | .c010100a0 u d j => Sys2Proof.Machine.execC010100a0 u d j s
  | .c010101a0 u d j => Sys2Proof.Machine.execC010101a0 u d j s
  | .c010110a0 u d j => Sys2Proof.Machine.execC010110a0 u d j s
  | .c010111a0 u d j => Sys2Proof.Machine.execC010111a0 u d j s
  | .c011000a0 u d j => Sys2Proof.Machine.execC011000a0 u d j s
  | .c011001a0 u d j => Sys2Proof.Machine.execC011001a0 u d j s
  | .c011010a0 u d j => Sys2Proof.Machine.execC011010a0 u d j s
  | .c011011a0 u d j => Sys2Proof.Machine.execC011011a0 u d j s
  | .c011100a0 u d j => Sys2Proof.Machine.execC011100a0 u d j s
  | .c011101a0 u d j => Sys2Proof.Machine.execC011101a0 u d j s
  | .c011110a0 u d j => Sys2Proof.Machine.execC011110a0 u d j s
  | .c011111a0 u d j => Sys2Proof.Machine.execC011111a0 u d j s
  | .c100000a0 u d j => Sys2Proof.Machine.execC100000a0 u d j s
  | .c100001a0 u d j => Sys2Proof.Machine.execC100001a0 u d j s
  | .c100010a0 u d j => Sys2Proof.Machine.execC100010a0 u d j s
  | .c100011a0 u d j => Sys2Proof.Machine.execC100011a0 u d j s
  | .c100100a0 u d j => Sys2Proof.Machine.execC100100a0 u d j s
  | .c100101a0 u d j => Sys2Proof.Machine.execC100101a0 u d j s
  | .c100110a0 u d j => Sys2Proof.Machine.execC100110a0 u d j s
  | .c100111a0 u d j => Sys2Proof.Machine.execC100111a0 u d j s
  | .c101000a0 u d j => Sys2Proof.Machine.execC101000a0 u d j s
  | .c101001a0 u d j => Sys2Proof.Machine.execC101001a0 u d j s
  | .c101010a0 u d j => Sys2Proof.Machine.execC101010a0 u d j s
  | .c101011a0 u d j => Sys2Proof.Machine.execC101011a0 u d j s
  | .c101100a0 u d j => Sys2Proof.Machine.execC101100a0 u d j s
  | .c101101a0 u d j => Sys2Proof.Machine.execC101101a0 u d j s
  | .c101110a0 u d j => Sys2Proof.Machine.execC101110a0 u d j s
  | .c101111a0 u d j => Sys2Proof.Machine.execC101111a0 u d j s
  | .c110000a0 u d j => Sys2Proof.Machine.execC110000a0 u d j s
  | .c110001a0 u d j => Sys2Proof.Machine.execC110001a0 u d j s
  | .c110010a0 u d j => Sys2Proof.Machine.execC110010a0 u d j s
  | .c110011a0 u d j => Sys2Proof.Machine.execC110011a0 u d j s
  | .c110100a0 u d j => Sys2Proof.Machine.execC110100a0 u d j s
  | .c110101a0 u d j => Sys2Proof.Machine.execC110101a0 u d j s
  | .c110110a0 u d j => Sys2Proof.Machine.execC110110a0 u d j s
  | .c110111a0 u d j => Sys2Proof.Machine.execC110111a0 u d j s
  | .c111000a0 u d j => Sys2Proof.Machine.execC111000a0 u d j s
  | .c111001a0 u d j => Sys2Proof.Machine.execC111001a0 u d j s
  | .c111010a0 u d j => Sys2Proof.Machine.execC111010a0 u d j s
  | .c111011a0 u d j => Sys2Proof.Machine.execC111011a0 u d j s
  | .c111100a0 u d j => Sys2Proof.Machine.execC111100a0 u d j s
  | .c111101a0 u d j => Sys2Proof.Machine.execC111101a0 u d j s
  | .c111110a0 u d j => Sys2Proof.Machine.execC111110a0 u d j s
  | .c111111a0 u d j => Sys2Proof.Machine.execC111111a0 u d j s
  | .c000000a1 u d j => Sys2Proof.Machine.execC000000a1 u d j s
  | .c000001a1 u d j => Sys2Proof.Machine.execC000001a1 u d j s
  | .c000010a1 u d j => Sys2Proof.Machine.execC000010a1 u d j s
  | .c000011a1 u d j => Sys2Proof.Machine.execC000011a1 u d j s
  | .c000100a1 u d j => Sys2Proof.Machine.execC000100a1 u d j s
  | .c000101a1 u d j => Sys2Proof.Machine.execC000101a1 u d j s
  | .c000110a1 u d j => Sys2Proof.Machine.execC000110a1 u d j s
  | .c000111a1 u d j => Sys2Proof.Machine.execC000111a1 u d j s
  | .c001000a1 u d j => Sys2Proof.Machine.execC001000a1 u d j s
  | .c001001a1 u d j => Sys2Proof.Machine.execC001001a1 u d j s
  | .c001010a1 u d j => Sys2Proof.Machine.execC001010a1 u d j s
  | .c001011a1 u d j => Sys2Proof.Machine.execC001011a1 u d j s
  | .c001100a1 u d j => Sys2Proof.Machine.execC001100a1 u d j s
  | .c001101a1 u d j => Sys2Proof.Machine.execC001101a1 u d j s
  | .c001110a1 u d j => Sys2Proof.Machine.execC001110a1 u d j s
  | .c001111a1 u d j => Sys2Proof.Machine.execC001111a1 u d j s
  | .c010000a1 u d j => Sys2Proof.Machine.execC010000a1 u d j s
  | .c010001a1 u d j => Sys2Proof.Machine.execC010001a1 u d j s
  | .c010010a1 u d j => Sys2Proof.Machine.execC010010a1 u d j s
  | .c010011a1 u d j => Sys2Proof.Machine.execC010011a1 u d j s
  | .c010100a1 u d j => Sys2Proof.Machine.execC010100a1 u d j s
  | .c010101a1 u d j => Sys2Proof.Machine.execC010101a1 u d j s
  | .c010110a1 u d j => Sys2Proof.Machine.execC010110a1 u d j s
  | .c010111a1 u d j => Sys2Proof.Machine.execC010111a1 u d j s
  | .c011000a1 u d j => Sys2Proof.Machine.execC011000a1 u d j s
  | .c011001a1 u d j => Sys2Proof.Machine.execC011001a1 u d j s
  | .c011010a1 u d j => Sys2Proof.Machine.execC011010a1 u d j s
  | .c011011a1 u d j => Sys2Proof.Machine.execC011011a1 u d j s
  | .c011100a1 u d j => Sys2Proof.Machine.execC011100a1 u d j s
  | .c011101a1 u d j => Sys2Proof.Machine.execC011101a1 u d j s
  | .c011110a1 u d j => Sys2Proof.Machine.execC011110a1 u d j s
  | .c011111a1 u d j => Sys2Proof.Machine.execC011111a1 u d j s
  | .c100000a1 u d j => Sys2Proof.Machine.execC100000a1 u d j s
  | .c100001a1 u d j => Sys2Proof.Machine.execC100001a1 u d j s
  | .c100010a1 u d j => Sys2Proof.Machine.execC100010a1 u d j s
  | .c100011a1 u d j => Sys2Proof.Machine.execC100011a1 u d j s
  | .c100100a1 u d j => Sys2Proof.Machine.execC100100a1 u d j s
  | .c100101a1 u d j => Sys2Proof.Machine.execC100101a1 u d j s
  | .c100110a1 u d j => Sys2Proof.Machine.execC100110a1 u d j s
  | .c100111a1 u d j => Sys2Proof.Machine.execC100111a1 u d j s
  | .c101000a1 u d j => Sys2Proof.Machine.execC101000a1 u d j s
  | .c101001a1 u d j => Sys2Proof.Machine.execC101001a1 u d j s
  | .c101010a1 u d j => Sys2Proof.Machine.execC101010a1 u d j s
  | .c101011a1 u d j => Sys2Proof.Machine.execC101011a1 u d j s
  | .c101100a1 u d j => Sys2Proof.Machine.execC101100a1 u d j s
  | .c101101a1 u d j => Sys2Proof.Machine.execC101101a1 u d j s
  | .c101110a1 u d j => Sys2Proof.Machine.execC101110a1 u d j s
  | .c101111a1 u d j => Sys2Proof.Machine.execC101111a1 u d j s
  | .c110000a1 u d j => Sys2Proof.Machine.execC110000a1 u d j s
  | .c110001a1 u d j => Sys2Proof.Machine.execC110001a1 u d j s
  | .c110010a1 u d j => Sys2Proof.Machine.execC110010a1 u d j s
  | .c110011a1 u d j => Sys2Proof.Machine.execC110011a1 u d j s
  | .c110100a1 u d j => Sys2Proof.Machine.execC110100a1 u d j s
  | .c110101a1 u d j => Sys2Proof.Machine.execC110101a1 u d j s
  | .c110110a1 u d j => Sys2Proof.Machine.execC110110a1 u d j s
  | .c110111a1 u d j => Sys2Proof.Machine.execC110111a1 u d j s
  | .c111000a1 u d j => Sys2Proof.Machine.execC111000a1 u d j s
  | .c111001a1 u d j => Sys2Proof.Machine.execC111001a1 u d j s
  | .c111010a1 u d j => Sys2Proof.Machine.execC111010a1 u d j s
  | .c111011a1 u d j => Sys2Proof.Machine.execC111011a1 u d j s
  | .c111100a1 u d j => Sys2Proof.Machine.execC111100a1 u d j s
  | .c111101a1 u d j => Sys2Proof.Machine.execC111101a1 u d j s
  | .c111110a1 u d j => Sys2Proof.Machine.execC111110a1 u d j s
  | .c111111a1 u d j => Sys2Proof.Machine.execC111111a1 u d j s

end Sys2Proof.Machine
end

