-- ==== Sys2Proof/Machine/Step.lean ====
section
/-! DEFINITION. One step: one iteration of the execution driver's loop, one clock cycle (42_cpu_cycle.md R97, R113). -/

namespace Sys2Proof.Machine

/-- A halted machine does nothing; an absent fetch halts it; a present Word is decoded and executed (R97). -/
def step (s : State) : Host.Outcome State Fault Refusal :=
  match s.halted with
  | true => stayHalted s
  | false =>
    match fetch s with
    | none => haltRun s
    | some w => exec (decode w) s

/-- `s` with one instruction Word present where `step` fetches next, at PC.out, and the machine not halted (log 16). -/
def State.withFetchWord (s : State) (nbits w : Nat) : State :=
  (s.withRom (romSet s.rom s.pc.out (BitVec.ofNat 16 (w % 2 ^ nbits)))).withHalted false

end Sys2Proof.Machine
end

