-- ==== Sys2Proof/Machine/Launch.lean ====
section
/-! DEFINITION. The host interface: launching a run, driving the reset input, reading results (70_reset_and_hazards.md section 1). -/

namespace Sys2Proof.Machine

/-- A Word as the host gives it: its bits, ⟨0⟩ first (R13, R75). -/
abbrev HostWord := List Nat

/-- The bits of a host Word, none unless every element is 0 or 1 (R74). -/
def hostBits : HostWord → Option (List Bool)
  | [] => some []
  | 0 :: rest => (hostBits rest).map (false :: ·)
  | 1 :: rest => (hostBits rest).map (true :: ·)
  | (_ + 2) :: _ => none

/-- The number whose binary digits, the most significant first, follow those of `acc`. -/
def bitsValue : Nat → List Bool → Nat
  | acc, [] => acc
  | acc, b :: rest => bitsValue (2 * acc + b.toNat) rest

/-- The Word a host Word stands for: refused unless it is exactly 16 elements of 0 and 1 (R75, R229 (a)). -/
def hostWord (h : HostWord) : Option Word :=
  if h.length = 16 then (hostBits h).map fun bits => BitVec.ofNat 16 (bitsValue 0 bits) else none

/-- The Words of a program or none, if one is malformed. -/
def hostProgram : List HostWord → Option (List Word)
  | [] => some []
  | h :: rest => (hostWord h).bind fun w => (hostProgram rest).map (w :: ·)

/-- The (address, value) pairs of RAM_INIT, or none if a Word of them is malformed. -/
def hostSeeds : List (HostWord × HostWord) → Option (List (Word × Word))
  | [] => some []
  | (a, v) :: rest =>
    (hostWord a).bind fun aw => (hostWord v).bind fun vw => (hostSeeds rest).map ((aw, vw) :: ·)

/-- The image of a program placed at consecutive addresses with no gaps (R241). -/
def programImage : Nat → List Word → Rom
  | _, [] => []
  | k, w :: rest => (k, w) :: programImage (k + 1) rest

/-- The seed calls `RAM.process(a, v, 1)`, in order (R242). -/
def seedRam : DataStore → List (Word × Word) → DataStore
  | r, [] => r
  | r, (a, v) :: rest => seedRam (r.process a v true) rest

/-- The launch state of R246: the construction state, with the program loaded and the data store seeded. `alu` holds the open
launch value ALU_OUT_INIT and the flags, which may be anything (D2, O1, O2). -/
def launchState (alu : AluLatch) (program : List Word) (seeds : List (Word × Word)) : State :=
  let s := State.construction alu
  (s.withRom (programImage 0 program)).withRam (seedRam s.ram seeds)

/-- The launch of a run by the host: refused if a Word is malformed or the program does not fit (R229, D9, D12). Where both hold,
malformedWord is named: DESIGN CHOICE, the spec gives no order (log 19). -/
def launch (alu : AluLatch) (program : List HostWord) (seeds : List (HostWord × HostWord)) :
    Host.Outcome State Fault Refusal :=
  match hostProgram program, hostSeeds seeds with
  | some p, some sd => if p.length ≤ Config.romSize then .next (launchState alu p sd) else .refused .programTooLong
  | _, _ => .refused .malformedWord

/-- A host drives the CPU's reset input to a level (R248); a level that is not a Bit is refused (R229 (d)). -/
def driveReset (level : Nat) (s : State) : Host.Outcome State Fault Refusal :=
  match level with
  | 0 => .next (s.withResetIn false)
  | 1 => .next (s.withResetIn true)
  | _ + 2 => .refused .badResetLevel

/-- What a result read gives the host. -/
inductive ReadResult where
  /-- The Word at the address. -/
  | value (w : Word)
  /-- The read is refused. -/
  | refused (r : Refusal)
  deriving DecidableEq, Repr

/-- A result read, after the halt only (R243, R244, D15): MemRead of the address; it changes no state. A malformed address before
the halt meets both refusals, and malformedWord is named: DESIGN CHOICE, the spec gives no order (log 19). -/
def hostRead (address : HostWord) (s : State) : ReadResult :=
  match hostWord address with
  | none => .refused .malformedWord
  | some a => if s.halted then .value (memRead s.ram.mem a) else .refused .hostAccessDuringRun

end Sys2Proof.Machine
end

