-- ==== Sys2Proof/Safety.lean ====
section
/-! DEFINITION. What the statements call a run, its end, and the invariant of the machine. -/

namespace Sys2Proof

open Machine

/-- `t` is the state after `n` steps from `s`. -/
def After (n : Nat) (s t : State) : Prop := core.run n s = .next t

/-- A run has ended: the driver has halted (R114, R115). A run cut short by a cycle bound has not ended. -/
def Ended (s : State) : Prop := s.halted = true

/-- The invariant of every state a run can be in: both stores are in canonical form, and the ALU's flags describe its output latch
(R82). Every accepted launch whose ALU latch is of that form meets it. -/
structure Inv (s : State) : Prop where
  ram : s.ram.mem.wf = true
  rom : s.rom.wf = true
  zr : s.alu.zr = zrFlag s.alu.out
  ng : s.alu.ng = ngFlag s.alu.out

/-- Two states agree on everything a later cycle can read: all but A.out, D.out and the flags, which every cycle writes before it
reads them (R33). -/
structure SameKept (s t : State) : Prop where
  a : s.a.reg = t.a.reg
  d : s.d.reg = t.d.reg
  alu : s.alu.out = t.alu.out
  pc : s.pc = t.pc
  ram : s.ram = t.ram
  rom : s.rom = t.rom
  halted : s.halted = t.halted
  resetIn : s.resetIn = t.resetIn

end Sys2Proof
end

