-- ==== Sys2Proof/Certificates/Slice0/Obligations.lean ====
section
/-! DEFINITION. The statements for the provers, and the terms they are written in. -/

namespace Sys2Proof.Spec

open Sys2Proof.Machine

/-- The PC after a cycle (R91, R109): the output is the pending value, ZERO under reset; the pending value is A or
the output + 1. What reset leaves of load and increment is the choice of D5 (log 8). -/
def pcAfter (jump : Bool) (s : State) : Storage :=
  let out := if s.resetIn then 0#16 else s.pc.reg
  { reg := if jump then s.a.reg else out + 1#16, out := out }

/-- The data store after a cycle whose result is r (R40, R59): after a write the output latch holds r; that the store is
processed without a write too is the choice of D13 (log 9). -/
def ramAfter (write : Bool) (r : Word) (s : State) : DataStore :=
  if write then { mem := memWrite s.ram.mem s.a.reg r, out := r }
  else { mem := s.ram.mem, out := memRead s.ram.mem s.a.reg }

/-- The whole state after a C-instruction with result r, destinations d and jump j (R126, R82, R210). -/
def cAfter (r : Word) (d : Dest) (j : Jump) (s : State) : State :=
  { a := { reg := if d.dA then s.alu.out else s.a.reg, out := s.a.reg }
    d := { reg := if d.dD then s.alu.out else s.d.reg, out := s.d.reg }
    pc := pcAfter ((j.jN && r.msb) || (j.jZ && r == 0#16) || (j.jP && !r.msb)) s
    alu := { out := r, zr := r == 0#16, ng := r.msb }
    ram := ramAfter d.dM r s
    rom := s.rom
    halted := s.halted
    resetIn := s.resetIn }

/-- The whole state after the A-instruction of v when its ALU result is r (R117). -/
def aAfter (v r : Word) (s : State) : State :=
  { a := { reg := v, out := s.a.reg }
    d := { reg := s.alu.out, out := s.d.reg }
    pc := pcAfter false s
    alu := { out := r, zr := r == 0#16, ng := r.msb }
    ram := ramAfter (v.getMsbD 12) r s
    rom := s.rom
    halted := s.halted
    resetIn := s.resetIn }

/-- What a rule of 45_alu_codes.md says of control code c: the Words of its two rows of the opcode table decode to the two
instructions, the two instructions compute `fn` of D and A or inM, and so does an A-instruction with the code in its value. -/
def CodeComputes (c : BitVec 6) (match0 match1 : Word) (i0 i1 : BitVec 2 → Dest → Jump → Instr)
    (fn : Word → Word → Word) : Prop :=
  (∀ w : Word, w &&& 0x9FC0#16 = match0 → decode w = i0 (unusedOf w) (destOf w) (jumpOf w)) ∧
  (∀ w : Word, w &&& 0x9FC0#16 = match1 → decode w = i1 (unusedOf w) (destOf w) (jumpOf w)) ∧
  (∀ u d j s, exec (i0 u d j) s = .next (cAfter (fn s.d.reg s.a.reg) d j s)) ∧
  (∀ u d j s, exec (i1 u d j) s = .next (cAfter (fn s.d.reg s.ram.out) d j s)) ∧
  (∀ v s, v.getMsbD 0 = false → v.extractLsb' 6 6 = c →
    exec (.atV v) s = .next (aAfter v (fn s.d.reg (if v.getMsbD 3 then s.ram.out else s.a.reg)) s))

/-- The equations of R109, from the bits of the instruction Word. -/
def stateFunction (i : Word) (s : State) : State :=
  let isA := !i.getMsbD 0
  let l := s.alu.out
  let y := if i.getMsbD 3 then s.ram.out else s.a.reg
  let r := aluOut s.d.reg y
    ⟨i.getMsbD 4, i.getMsbD 5, i.getMsbD 6, i.getMsbD 7, i.getMsbD 8, i.getMsbD 9⟩
  let zr := decide (r = 0#16)
  let ng := r.getMsbD 0
  let jump := !isA && ((i.getMsbD 13 && ng) || (i.getMsbD 14 && zr) || (i.getMsbD 15 && !ng))
  let pcOut := if s.resetIn then 0#16 else s.pc.reg
  let mem := if i.getMsbD 12 then memWrite s.ram.mem s.a.reg r else s.ram.mem
  { a := { reg := if isA then i else if i.getMsbD 10 then l else s.a.reg, out := s.a.reg }
    d := { reg := if isA || i.getMsbD 11 then l else s.d.reg, out := s.d.reg }
    pc := { reg := if jump then s.a.reg else adder pcOut 1#16, out := pcOut }
    alu := { out := r, zr := zr, ng := ng }
    ram := { mem := mem, out := memRead mem s.a.reg }
    rom := s.rom
    halted := s.halted
    resetIn := s.resetIn }

/-- The instruction Word takes a jump in this state: it is a C-instruction and a jump bit meets its flag of the result (R210). -/
def takesJump (i : Word) (s : State) : Prop :=
  let r := aluOut s.d.reg (if i.getMsbD 3 then s.ram.out else s.a.reg) (aluControlOf i)
  i.getMsbD 0 = true ∧
    ((i.getMsbD 13 = true ∧ r.toInt < 0) ∨ (i.getMsbD 14 = true ∧ r = 0#16) ∨ (i.getMsbD 15 = true ∧ 0 ≤ r.toInt))

/-- The state S0 of 44_c_instruction.md. -/
def s0 : State :=
  { a := { reg := 0x0011#16, out := 0#16 }
    d := { reg := 0x0002#16, out := 0#16 }
    pc := { reg := 0#16, out := 0#16 }
    alu := { out := 0x0007#16, zr := false, ng := false }
    ram := { mem := [(0x11, 0x0042#16)], out := 0x0042#16 }
    rom := []
    halted := false
    resetIn := false }

/-- A row of the table of destination codes: the Word, then A.reg, D.reg, the data at 0x0011 and RAM.out after it, from S0. -/
def destinationExample (w a d m latch : Word) : Prop :=
  ∃ t, exec (decode w) s0 = .next t ∧ t.a.reg = a ∧ t.d.reg = d ∧ memRead t.ram.mem 0x0011#16 = m ∧ t.ram.out = latch ∧
    t.alu.out = 0x0043#16

end Sys2Proof.Spec

section

open Sys2Proof Sys2Proof.Machine Sys2Proof.Spec

/-- For every well-formed instruction, with every value of every field, decode of encode is the instruction itself. It keeps bits
1 and 2 of a C-instruction too, though they have no effect. -/
def Obligations.EncodeThenDecodeGivesTheInstruction : Prop :=
  ∀ i : Instr, i.wellFormed = true → decode (encode i) = i

/-- For each of the 65536 Words, the decoder answers a well-formed instruction and its encoding is the Word, so no bit of a Word
is dropped. -/
def Obligations.DecodeThenEncodeGivesTheWord : Prop :=
  ∀ w : Word, (decode w).wellFormed = true ∧ encode (decode w) = w

/-- The Words 0x0005 (@5), 0xE090 (D=D+A), 0xFDC8 (M=M+1), 0xEA87 (0;JMP), 0xE7FF (AMD=D+1;JMP), 0xF548 (M=D|M) and 0x8090 (D=D+A
with bits 1 and 2 zero) decode to those instructions. -/
def Obligations.SpecWordsDecodeAsWritten : Prop :=
  decode 0x0005#16 = .atV 5#16 ∧
  decode 0xE090#16 = .c000010a0 3#2 ⟨false, true, false⟩ ⟨false, false, false⟩ ∧
  decode 0xFDC8#16 = .c110111a1 3#2 ⟨false, false, true⟩ ⟨false, false, false⟩ ∧
  decode 0xEA87#16 = .c101010a0 3#2 ⟨false, false, false⟩ ⟨true, true, true⟩ ∧
  decode 0xE7FF#16 = .c011111a0 3#2 ⟨true, true, true⟩ ⟨true, true, true⟩ ∧
  decode 0xF548#16 = .c010101a1 3#2 ⟨false, false, true⟩ ⟨false, false, false⟩ ∧
  decode 0x8090#16 = .c000010a0 0#2 ⟨false, true, false⟩ ⟨false, false, false⟩

/-- A Word decodes to the A-instruction of that Word exactly when bit 0 is 0, which is when u(I) is at most 0x7FFF, and to a
C-instruction (an instruction that is no A-instruction) exactly when bit 0 is 1, which is when u(I) is at least 0x8000. -/
def Obligations.BitZeroSelectsTheFormat : Prop :=
  ∀ w : Word,
    (w.getMsbD 0 = false ↔ decode w = .atV w) ∧ (w.getMsbD 0 = false ↔ w.toNat ≤ 0x7FFF) ∧
    (w.getMsbD 0 = true ↔ ∀ v, decode w ≠ .atV v) ∧ (w.getMsbD 0 = true ↔ 0x8000 ≤ w.toNat)

/-- Every Word matches the mask and pattern of its decoded instruction's row of the opcode table, and any row it matches is that
row. -/
def Obligations.EachWordMatchesOneOpcodeRow : Prop :=
  ∀ w : Word,
    w &&& (decode w).row.mask = (decode w).row.pattern ∧
    ∀ i : Instr, w &&& i.row.mask = i.row.pattern → i.row = (decode w).row

/-- Two Words with bit 0 = 1 that agree in every bit but 1 and 2 execute to the same next state from every state. This is the
choice of D6 (log 10): the source does not mention the two bits. In an A-instruction they are value bits: A receives them. -/
def Obligations.UnusedBitsOfCInstructionsHaveNoEffect : Prop :=
  (∀ (w1 w2 : Word) (s : State), w1.getMsbD 0 = true → w2.getMsbD 0 = true →
      (∀ i, i ≠ 1 → i ≠ 2 → w1.getMsbD i = w2.getMsbD i) →
      exec (decode w1) s = exec (decode w2) s ∧ ∃ t, exec (decode w1) s = .next t) ∧
  (∀ (w : Word) (s : State), w.getMsbD 0 = false → ∃ t, exec (decode w) s = .next t ∧
      t.a.reg.getMsbD 1 = w.getMsbD 1 ∧ t.a.reg.getMsbD 2 = w.getMsbD 2)

/-- When the machine is not halted and the instruction store holds, at PC.out, the Word of a well-formed instruction i, step is
exec of i at that same state; whatever Word w stands there, step is exec of decode w. Nothing is added around exec: the PC
moves inside the cycle (its step 8). That the fetch address is PC.out is D14 (log 9). -/
def Obligations.StepExecutesTheFetchedInstruction : Prop :=
  (∀ (s : State) (i : Instr), i.wellFormed = true → s.halted = false → romFetch s.rom s.pc.out = some (encode i) →
      step s = exec i s) ∧
  (∀ (s : State) (w : Word), s.halted = false → romFetch s.rom s.pc.out = some w → step s = exec (decode w) s)

/-- From every state every instruction executes to a next state, the Word of every instruction included, and every step (halted,
halting or executing) answers a next state: there is no fault and no refusal. That a halting and a halted step are next states
is the model's reading of the halt (log 7). -/
def Obligations.NoInstructionFaultsOrIsRefused : Prop :=
  (∀ (i : Instr) (s : State), ∃ t, exec i s = .next t) ∧ (∀ s : State, ∃ t, step s = .next t) ∧
  (∀ (n : Nat) (s : State), ∃ t, After n s t)

/-- A step sets halted exactly when it was set or the fetch found no stored instruction; every launch starts with 0; once 1, it is
1 after any number of steps. -/
def Obligations.HaltedBitIsSetByAnAbsentFetchOnly : Prop :=
  (∀ s t : State, step s = .next t → (t.halted = true ↔ s.halted = true ∨ fetch s = none)) ∧
  (∀ (l : AluLatch) (p : List Word) (sd : List (Word × Word)), (launchState l p sd).halted = false) ∧
  (∀ (n : Nat) (s t : State), s.halted = true → After n s t → t.halted = true)

/-- From a state that is not halted, a step whose fetch is absent gives that state with halted set and nothing else changed; from
a halted state any number of steps gives the same state. That nothing follows the halt is D16 (log 7), and that the fetch is
at PC.out is D14 (log 9). -/
def Obligations.AbsentFetchEndsTheRunAndChangesNothingElse : Prop :=
  (∀ s : State, s.halted = false → romFetch s.rom s.pc.out = none → step s = .next { s with halted := true }) ∧
  (∀ (n : Nat) (s t : State), Ended s → (After n s t ↔ t = s))

/-- For every Word I and every state, executing the decoded instruction, by its own meaning and in the ordered steps of the cycle,
gives exactly the state the equations of 42_cpu_cycle.md section 2 (R109) give from the bits of I: every register, latch,
flag, memory location and the PC, with either level on the reset input. The PC under reset is the choice of D5 (log 8), the
data store processed in every cycle that of D13 (log 9). -/
def Obligations.CycleIsTheStateFunctionOfItsWord : Prop :=
  ∀ (w : Word) (s : State), exec (decode w) s = .next (stateFunction w s)

/-- For every value v (bit 0 = 0) and every state: A.reg = v, D.reg = the previous ALU output, the ALU runs on v's bits with y = A
or inM by v's bit 3, the data store is written at the old A with the result exactly when v's bit 12 is 1, RAM.out is reloaded
from the old A, the PC increments, and everything else is unchanged. The PC with the reset input at 1 is the choice of D5 (log
8), RAM.out reloaded without a store that of D13 (log 9). -/
def Obligations.AInstructionResult : Prop :=
  ∀ (v : Word) (s : State), v.getMsbD 0 = false →
    exec (.atV v) s = .next (aAfter v (aluOut s.d.reg (if v.getMsbD 3 then s.ram.out else s.a.reg)
      ⟨v.getMsbD 4, v.getMsbD 5, v.getMsbD 6, v.getMsbD 7, v.getMsbD 8, v.getMsbD 9⟩) s)

/-- In its own cycle the old A and D are the outputs, the old A is the address the data store is processed at, and the PC
increments whatever bits 13 to 15 are (reset input 0); in the next cycle, whatever Word it executes, A.out is the value and
D.out the ALU output from before the A-instruction; the old D is lost unless that ALU output was D. RAM.out reloaded from the
old A by a value with bit 12 = 0 rests on the data store being processed in every cycle, the choice of D13 (log 9). -/
def Obligations.AInstructionWritesAAndDAndNeverJumps : Prop :=
  ∀ (v : Word) (s : State), v.getMsbD 0 = false →
    ∃ t, exec (.atV v) s = .next t ∧
      t.a.reg = v ∧ t.a.out = s.a.reg ∧ t.ram.out = memRead t.ram.mem s.a.reg ∧
      t.alu.out = aluOut s.d.reg (if v.getMsbD 3 then s.ram.out else s.a.reg) (aluControlOf v) ∧
      t.d.reg = s.alu.out ∧ t.d.out = s.d.reg ∧
      (s.resetIn = false → t.pc.out = s.pc.reg ∧ t.pc.reg = t.pc.out + 1#16) ∧
      (t.d.reg = s.d.reg ↔ s.alu.out = s.d.reg) ∧
      ∀ w : Word, ∃ t', exec (decode w) t = .next t' ∧ t'.a.out = v ∧ t'.d.out = s.alu.out

/-- When v mod 16 is at least 8, the A-instruction stores its ALU result at the A value before it, and no other address changes;
when v mod 16 is less than 8, every address reads as before. -/
def Obligations.AInstructionStoresByItsValueBitThree : Prop :=
  ∀ (v : Word) (s : State), v.getMsbD 0 = false →
    ∃ t, exec (.atV v) s = .next t ∧
      (8 ≤ v.toNat % 16 → memRead t.ram.mem s.a.reg = t.alu.out ∧
        ∀ b, b ≠ s.a.reg → memRead t.ram.mem b = memRead s.ram.mem b) ∧
      (v.toNat % 16 < 8 → ∀ b, memRead t.ram.mem b = memRead s.ram.mem b)

/-- The eleven control codes of the constant ZERO (rules R154, R170, R178, R182, R186, R188, R190, R193, R202, R205, R207): the
two instructions of each code, and the A-instructions that carry it. The PC at a reset input of 1 is the choice of D5 (log 8),
RAM.out without a store that of D13 (log 9). -/
def Obligations.ZeroCodesComputeZero : Prop :=
  CodeComputes 0b001000#6 0x8200#16 0x9200#16 .c001000a0 .c001000a1 (fun _ _ => 0#16) ∧
  CodeComputes 0b011000#6 0x8600#16 0x9600#16 .c011000a0 .c011000a1 (fun _ _ => 0#16) ∧
  CodeComputes 0b100000#6 0x8800#16 0x9800#16 .c100000a0 .c100000a1 (fun _ _ => 0#16) ∧
  CodeComputes 0b100100#6 0x8900#16 0x9900#16 .c100100a0 .c100100a1 (fun _ _ => 0#16) ∧
  CodeComputes 0b101000#6 0x8A00#16 0x9A00#16 .c101000a0 .c101000a1 (fun _ _ => 0#16) ∧
  CodeComputes 0b101010#6 0x8A80#16 0x9A80#16 .c101010a0 .c101010a1 (fun _ _ => 0#16) ∧
  CodeComputes 0b101100#6 0x8B00#16 0x9B00#16 .c101100a0 .c101100a1 (fun _ _ => 0#16) ∧
  CodeComputes 0b101111#6 0x8BC0#16 0x9BC0#16 .c101111a0 .c101111a1 (fun _ _ => 0#16) ∧
  CodeComputes 0b111000#6 0x8E00#16 0x9E00#16 .c111000a0 .c111000a1 (fun _ _ => 0#16) ∧
  CodeComputes 0b111011#6 0x8EC0#16 0x9EC0#16 .c111011a0 .c111011a1 (fun _ _ => 0#16) ∧
  CodeComputes 0b111101#6 0x8F40#16 0x9F40#16 .c111101a0 .c111101a1 (fun _ _ => 0#16)

/-- The eleven control codes of the constant ONES (rules R155, R171, R179, R183, R187, R189, R191, R192, R203, R204, R206): the
two instructions of each code, and the A-instructions that carry it. The PC at a reset input of 1 is the choice of D5 (log 8),
RAM.out without a store that of D13 (log 9). -/
def Obligations.OnesCodesComputeMinusOne : Prop :=
  CodeComputes 0b001001#6 0x8240#16 0x9240#16 .c001001a0 .c001001a1 (fun _ _ => 0xFFFF#16) ∧
  CodeComputes 0b011001#6 0x8640#16 0x9640#16 .c011001a0 .c011001a1 (fun _ _ => 0xFFFF#16) ∧
  CodeComputes 0b100001#6 0x8840#16 0x9840#16 .c100001a0 .c100001a1 (fun _ _ => 0xFFFF#16) ∧
  CodeComputes 0b100101#6 0x8940#16 0x9940#16 .c100101a0 .c100101a1 (fun _ _ => 0xFFFF#16) ∧
  CodeComputes 0b101001#6 0x8A40#16 0x9A40#16 .c101001a0 .c101001a1 (fun _ _ => 0xFFFF#16) ∧
  CodeComputes 0b101011#6 0x8AC0#16 0x9AC0#16 .c101011a0 .c101011a1 (fun _ _ => 0xFFFF#16) ∧
  CodeComputes 0b101101#6 0x8B40#16 0x9B40#16 .c101101a0 .c101101a1 (fun _ _ => 0xFFFF#16) ∧
  CodeComputes 0b101110#6 0x8B80#16 0x9B80#16 .c101110a0 .c101110a1 (fun _ _ => 0xFFFF#16) ∧
  CodeComputes 0b111001#6 0x8E40#16 0x9E40#16 .c111001a0 .c111001a1 (fun _ _ => 0xFFFF#16) ∧
  CodeComputes 0b111010#6 0x8E80#16 0x9E80#16 .c111010a0 .c111010a1 (fun _ _ => 0xFFFF#16) ∧
  CodeComputes 0b111100#6 0x8F00#16 0x9F00#16 .c111100a0 .c111100a1 (fun _ _ => 0xFFFF#16)

/-- Code 111111 computes ONE, not ONES (C2), and 111110 computes -2 (rules R208, R209): the two instructions of each code, and the
A-instructions that carry it. The PC at a reset input of 1 is the choice of D5 (log 8), RAM.out without a store that of D13
(log 9). -/
def Obligations.OneAndMinusTwoCodes : Prop :=
  CodeComputes 0b111110#6 0x8F80#16 0x9F80#16 .c111110a0 .c111110a1 (fun _ _ => 0xFFFE#16) ∧
  CodeComputes 0b111111#6 0x8FC0#16 0x9FC0#16 .c111111a0 .c111111a1 (fun _ _ => 1#16)

/-- The eight control codes of x and of Not(x) (rules R156, R157, R158, R159, R172, R173, R174, R175): the two instructions of
each code, and the A-instructions that carry it. The PC at a reset input of 1 is the choice of D5 (log 8), RAM.out without a
store that of D13 (log 9). -/
def Obligations.DRegisterAndComplementCodes : Prop :=
  CodeComputes 0b001010#6 0x8280#16 0x9280#16 .c001010a0 .c001010a1 (fun x _ => x) ∧
  CodeComputes 0b001011#6 0x82C0#16 0x92C0#16 .c001011a0 .c001011a1 (fun x _ => ~~~x) ∧
  CodeComputes 0b001100#6 0x8300#16 0x9300#16 .c001100a0 .c001100a1 (fun x _ => x) ∧
  CodeComputes 0b001101#6 0x8340#16 0x9340#16 .c001101a0 .c001101a1 (fun x _ => ~~~x) ∧
  CodeComputes 0b011010#6 0x8680#16 0x9680#16 .c011010a0 .c011010a1 (fun x _ => ~~~x) ∧
  CodeComputes 0b011011#6 0x86C0#16 0x96C0#16 .c011011a0 .c011011a1 (fun x _ => x) ∧
  CodeComputes 0b011100#6 0x8700#16 0x9700#16 .c011100a0 .c011100a1 (fun x _ => ~~~x) ∧
  CodeComputes 0b011101#6 0x8740#16 0x9740#16 .c011101a0 .c011101a1 (fun x _ => x)

/-- The control codes of x-1, -x, -x-2 and x+1 (rules R160, R161, R176, R177): the two instructions of each code, and the
A-instructions that carry it. The PC at a reset input of 1 is the choice of D5 (log 8), RAM.out without a store that of D13
(log 9). -/
def Obligations.DRegisterArithmeticCodes : Prop :=
  CodeComputes 0b001110#6 0x8380#16 0x9380#16 .c001110a0 .c001110a1 (fun x _ => x - 1#16) ∧
  CodeComputes 0b001111#6 0x83C0#16 0x93C0#16 .c001111a0 .c001111a1 (fun x _ => -x) ∧
  CodeComputes 0b011110#6 0x8780#16 0x9780#16 .c011110a0 .c011110a1 (fun x _ => -x - 2#16) ∧
  CodeComputes 0b011111#6 0x87C0#16 0x97C0#16 .c011111a0 .c011111a1 (fun x _ => x + 1#16)

/-- The eight control codes of y and of Not(y) (rules R180, R181, R184, R185, R194, R195, R198, R199): the two instructions of
each code, and the A-instructions that carry it. The PC at a reset input of 1 is the choice of D5 (log 8), RAM.out without a
store that of D13 (log 9). -/
def Obligations.YOperandAndComplementCodes : Prop :=
  CodeComputes 0b100010#6 0x8880#16 0x9880#16 .c100010a0 .c100010a1 (fun _ y => y) ∧
  CodeComputes 0b100011#6 0x88C0#16 0x98C0#16 .c100011a0 .c100011a1 (fun _ y => ~~~y) ∧
  CodeComputes 0b100110#6 0x8980#16 0x9980#16 .c100110a0 .c100110a1 (fun _ y => ~~~y) ∧
  CodeComputes 0b100111#6 0x89C0#16 0x99C0#16 .c100111a0 .c100111a1 (fun _ y => y) ∧
  CodeComputes 0b110000#6 0x8C00#16 0x9C00#16 .c110000a0 .c110000a1 (fun _ y => y) ∧
  CodeComputes 0b110001#6 0x8C40#16 0x9C40#16 .c110001a0 .c110001a1 (fun _ y => ~~~y) ∧
  CodeComputes 0b110100#6 0x8D00#16 0x9D00#16 .c110100a0 .c110100a1 (fun _ y => ~~~y) ∧
  CodeComputes 0b110101#6 0x8D40#16 0x9D40#16 .c110101a0 .c110101a1 (fun _ y => y)

/-- The control codes of y-1, -y, -y-2 and y+1 (rules R196, R197, R200, R201): the two instructions of each code, and the
A-instructions that carry it. The PC at a reset input of 1 is the choice of D5 (log 8), RAM.out without a store that of D13
(log 9). -/
def Obligations.YOperandArithmeticCodes : Prop :=
  CodeComputes 0b110010#6 0x8C80#16 0x9C80#16 .c110010a0 .c110010a1 (fun _ y => y - 1#16) ∧
  CodeComputes 0b110011#6 0x8CC0#16 0x9CC0#16 .c110011a0 .c110011a1 (fun _ y => -y) ∧
  CodeComputes 0b110110#6 0x8D80#16 0x9D80#16 .c110110a0 .c110110a1 (fun _ y => -y - 2#16) ∧
  CodeComputes 0b110111#6 0x8DC0#16 0x9DC0#16 .c110111a0 .c110111a1 (fun _ y => y + 1#16)

/-- The eight control codes of a bitwise function of x and y (rules R146, R147, R150, R151, R162, R163, R166, R167): the two
instructions of each code, and the A-instructions that carry it. The PC at a reset input of 1 is the choice of D5 (log 8),
RAM.out without a store that of D13 (log 9). -/
def Obligations.LogicCodes : Prop :=
  CodeComputes 0b000000#6 0x8000#16 0x9000#16 .c000000a0 .c000000a1 (fun x y => x &&& y) ∧
  CodeComputes 0b000001#6 0x8040#16 0x9040#16 .c000001a0 .c000001a1 (fun x y => ~~~(x &&& y)) ∧
  CodeComputes 0b000100#6 0x8100#16 0x9100#16 .c000100a0 .c000100a1 (fun x y => x &&& ~~~y) ∧
  CodeComputes 0b000101#6 0x8140#16 0x9140#16 .c000101a0 .c000101a1 (fun x y => ~~~x ||| y) ∧
  CodeComputes 0b010000#6 0x8400#16 0x9400#16 .c010000a0 .c010000a1 (fun x y => ~~~x &&& y) ∧
  CodeComputes 0b010001#6 0x8440#16 0x9440#16 .c010001a0 .c010001a1 (fun x y => x ||| ~~~y) ∧
  CodeComputes 0b010100#6 0x8500#16 0x9500#16 .c010100a0 .c010100a1 (fun x y => ~~~(x ||| y)) ∧
  CodeComputes 0b010101#6 0x8540#16 0x9540#16 .c010101a0 .c010101a1 (fun x y => x ||| y)

/-- The eight control codes of a sum or difference of x and y (rules R148, R149, R152, R153, R164, R165, R168, R169): the two
instructions of each code, and the A-instructions that carry it. The PC at a reset input of 1 is the choice of D5 (log 8),
RAM.out without a store that of D13 (log 9). -/
def Obligations.SumAndDifferenceCodes : Prop :=
  CodeComputes 0b000010#6 0x8080#16 0x9080#16 .c000010a0 .c000010a1 (fun x y => x + y) ∧
  CodeComputes 0b000011#6 0x80C0#16 0x90C0#16 .c000011a0 .c000011a1 (fun x y => -x - y - 1#16) ∧
  CodeComputes 0b000110#6 0x8180#16 0x9180#16 .c000110a0 .c000110a1 (fun x y => x - y - 1#16) ∧
  CodeComputes 0b000111#6 0x81C0#16 0x91C0#16 .c000111a0 .c000111a1 (fun x y => y - x) ∧
  CodeComputes 0b010010#6 0x8480#16 0x9480#16 .c010010a0 .c010010a1 (fun x y => y - x - 1#16) ∧
  CodeComputes 0b010011#6 0x84C0#16 0x94C0#16 .c010011a0 .c010011a1 (fun x y => x - y) ∧
  CodeComputes 0b010110#6 0x8580#16 0x9580#16 .c010110a0 .c010110a1 (fun x y => -x - y - 2#16) ∧
  CodeComputes 0b010111#6 0x85C0#16 0x95C0#16 .c010111a0 .c010111a1 (fun x y => x + y + 1#16)

/-- For every C-instruction Word: with dA = 1 A receives the ALU output of the previous cycle, else A keeps its value; the same
for dD and D; with dM = 1 the data store at A.out receives this instruction's own result, else every location keeps its value;
the three are independent, and a value written to A or D is seen by the next cycle, whatever Word that executes. -/
def Obligations.DestinationsReceivePreviousOrCurrentResult : Prop :=
  ∀ (w : Word) (s : State), w.getMsbD 0 = true →
    ∃ t, exec (decode w) s = .next t ∧
      t.a.reg = (if w.getMsbD 10 then s.alu.out else s.a.reg) ∧
      t.d.reg = (if w.getMsbD 11 then s.alu.out else s.d.reg) ∧
      t.alu.out = aluOut s.d.reg (if w.getMsbD 3 then s.ram.out else s.a.reg) (aluControlOf w) ∧
      (∀ b, memRead t.ram.mem b = if w.getMsbD 12 = true ∧ b = s.a.reg then t.alu.out else memRead s.ram.mem b) ∧
      ∀ w' : Word, ∃ t', exec (decode w') t = .next t' ∧ t'.a.out = t.a.reg ∧ t'.d.out = t.d.reg

/-- For every C-instruction Word with dM = 1, dA = 1 included: the data store is MemWrite of the result r at the A value before
the cycle, one whole Word, RAM.out is r, and so the next instruction, whatever it is, that selects inM has y = r. -/
def Obligations.StoreGoesToTheOldAAndIsReadNext : Prop :=
  ∀ (w : Word) (s : State), w.getMsbD 0 = true → w.getMsbD 12 = true →
    ∃ t, exec (decode w) s = .next t ∧ t.ram.mem = memWrite s.ram.mem s.a.reg t.alu.out ∧
      memRead t.ram.mem s.a.reg = t.alu.out ∧ t.ram.out = t.alu.out ∧
      ∀ w' : Word, w'.getMsbD 3 = true →
        ∃ t', exec (decode w') t = .next t' ∧ t'.alu.out = aluOut t.d.reg t.alu.out (aluControlOf w')

/-- From S0 (A = 0x0011, D = 0x0002, ALU.out = 0x0007, RAM.out = 0x0042, data 0x0011 = 0x0042), the eight Words 0xFDC0 to 0xFDF8
leave the A, D, data and RAM.out values of the spec's table. -/
def Obligations.DestinationExamplesFromS0 : Prop :=
  destinationExample 0xFDC0#16 0x0011#16 0x0002#16 0x0042#16 0x0042#16 ∧
  destinationExample 0xFDC8#16 0x0011#16 0x0002#16 0x0043#16 0x0043#16 ∧
  destinationExample 0xFDD0#16 0x0011#16 0x0007#16 0x0042#16 0x0042#16 ∧
  destinationExample 0xFDD8#16 0x0011#16 0x0007#16 0x0043#16 0x0043#16 ∧
  destinationExample 0xFDE0#16 0x0007#16 0x0002#16 0x0042#16 0x0042#16 ∧
  destinationExample 0xFDE8#16 0x0007#16 0x0002#16 0x0043#16 0x0043#16 ∧
  destinationExample 0xFDF0#16 0x0007#16 0x0007#16 0x0042#16 0x0042#16 ∧
  destinationExample 0xFDF8#16 0x0007#16 0x0007#16 0x0043#16 0x0043#16

/-- Every instruction, of either format, completes. A.reg is unchanged unless the instruction is an A-instruction or has dA = 1;
D.reg is unchanged unless it is an A-instruction or has dD = 1; every data address but the stored one, the A value before the
cycle, reads as before, and with bit 12 = 0 every address does; the instruction store, halted and the reset input are
unchanged. The PC, the two output latches, the flags and the committed outputs A.out and D.out are written by every cycle and
are not in the frame. -/
def Obligations.FrameOfEveryInstruction : Prop :=
  ∀ (w : Word) (s : State), ∃ t, exec (decode w) s = .next t ∧
    (w.getMsbD 0 = true → w.getMsbD 10 = false → t.a.reg = s.a.reg) ∧
    (w.getMsbD 0 = true → w.getMsbD 11 = false → t.d.reg = s.d.reg) ∧
    (w.getMsbD 12 = true → ∀ b, b ≠ s.a.reg → memRead t.ram.mem b = memRead s.ram.mem b) ∧
    (w.getMsbD 12 = false → ∀ b, memRead t.ram.mem b = memRead s.ram.mem b) ∧
    t.rom = s.rom ∧ t.halted = s.halted ∧ t.resetIn = s.resetIn

/-- For every C-instruction Word: PC.reg becomes A.out (the A value before the cycle) when (jN and ng) or (jZ and zr) or (jP and
not ng), with ng = r<0> and zr = (r = ZERO) of this instruction's result r, so that ng is s(r) < 0; otherwise it becomes the
committed output plus one, which with the reset input at 1 is the choice of D5 (log 8). -/
def Obligations.JumpDecisionReadsThisResult : Prop :=
  ∀ (w : Word) (s : State), w.getMsbD 0 = true →
    ∃ t, exec (decode w) s = .next t ∧
      t.alu.out = aluOut s.d.reg (if w.getMsbD 3 then s.ram.out else s.a.reg) (aluControlOf w) ∧
      t.alu.ng = t.alu.out.getMsbD 0 ∧ t.alu.zr = decide (t.alu.out = 0#16) ∧
      (t.alu.ng = true ↔ t.alu.out.toInt < 0) ∧ t.a.out = s.a.reg ∧
      t.pc.reg = (if (w.getMsbD 13 && t.alu.ng) || (w.getMsbD 14 && t.alu.zr) || (w.getMsbD 15 && !t.alu.ng)
        then t.a.out else t.pc.out + 1#16)

/-- For every C-instruction Word, with r its result: code 000 never jumps, 001 and 011 jump when s(r) >= 0, 010 when r = 0, 100
when s(r) < 0, 110 when s(r) <= 0, and 101 and 111 always; a jump sets PC.reg to the A value before the cycle, no jump to
PC.out + 1. With the reset input at 1 that is the choice of D5 (log 8). -/
def Obligations.EightJumpCodesBySignedResult : Prop :=
  ∀ (w : Word) (s : State), w.getMsbD 0 = true →
    ∃ t, exec (decode w) s = .next t ∧
      let taken := t.pc.reg = s.a.reg
      let notTaken := t.pc.reg = t.pc.out + 1#16
      let r := t.alu.out.toInt
      (w.extractLsb' 0 3 = 0b000#3 → notTaken) ∧
      (w.extractLsb' 0 3 = 0b001#3 → if 0 ≤ r then taken else notTaken) ∧
      (w.extractLsb' 0 3 = 0b010#3 → if r = 0 then taken else notTaken) ∧
      (w.extractLsb' 0 3 = 0b011#3 → if 0 ≤ r then taken else notTaken) ∧
      (w.extractLsb' 0 3 = 0b100#3 → if r < 0 then taken else notTaken) ∧
      (w.extractLsb' 0 3 = 0b101#3 → taken) ∧
      (w.extractLsb' 0 3 = 0b110#3 → if r ≤ 0 then taken else notTaken) ∧
      (w.extractLsb' 0 3 = 0b111#3 → taken)

/-- For every jump field j there is a result on which its decision differs from r > 0, and one on which it differs from r being
nonzero. -/
def Obligations.NoJumpCodeTestsPositiveOrNonzero : Prop :=
  ∀ j : Jump,
    (∃ r : Word, ¬ (jumpDecision true j (zrFlag r) (ngFlag r) = true ↔ 0 < r.toInt)) ∧
    (∃ r : Word, ¬ (jumpDecision true j (zrFlag r) (ngFlag r) = true ↔ r ≠ 0#16))

/-- From a running state with the reset input 0 whose instruction takes a jump: the next fetch is at PC.reg as it stood before;
the instruction there, if present, executes completely, and the fetch after it is at the A value from before the jump; if that
target holds no instruction the run halts there; if the slot's instruction itself takes a jump, the fetch after the target's
is at the A value the slot saw; if the slot holds no instruction, the run halts at its fetch and the target is never fetched.
The delay slot rests on the fetch at PC.out, the choice of D14 (log 9), and the halt on log 7. -/
def Obligations.TakenJumpHasOneDelaySlot : Prop :=
  ∀ (s : State) (w : Word), s.halted = false → s.resetIn = false → romFetch s.rom s.pc.out = some w → takesJump w s →
    ∃ s1, step s = .next s1 ∧ exec (decode w) s = .next s1 ∧ s1.pc.out = s.pc.reg ∧
      (∀ w1, romFetch s.rom s.pc.reg = some w1 →
        ∃ s2, step s1 = .next s2 ∧ exec (decode w1) s1 = .next s2 ∧ s2.pc.out = s.a.reg ∧
          (romFetch s.rom s.a.reg = none → step s2 = .next { s2 with halted := true }) ∧
          (takesJump w1 s1 → ∀ w2, romFetch s.rom s.a.reg = some w2 → ∃ s3, step s2 = .next s3 ∧ s3.pc.out = s1.a.reg)) ∧
      (romFetch s.rom s.pc.reg = none → step s1 = .next { s1 with halted := true })

/-- In every executing step the new pending value is the A value before the cycle if the instruction takes a jump, and otherwise
the committed output plus one; a committed output of 0xFFFF without a load gives 0x0000, with reset 0 that is a pending value
of 0xFFFF before the step; a step that executes nothing leaves the PC alone. The clauses at a reset input of 1 rest on the
choice of D5 (log 8), the fetch address on that of D14 (log 9), the step of a halted machine on log 7. -/
def Obligations.ProgramCounterAdvancesByOneOrJumps : Prop :=
  ∀ s : State,
    (∀ w, s.halted = false → romFetch s.rom s.pc.out = some w → ∃ t, step s = .next t ∧
      (takesJump w s → t.pc.reg = s.a.reg) ∧ (¬ takesJump w s → t.pc.reg = t.pc.out + 1#16) ∧
      (s.resetIn = false → ¬ takesJump w s → s.pc.reg = 0xFFFF#16 → t.pc.out = 0xFFFF#16 ∧ t.pc.reg = 0x0000#16)) ∧
    (s.halted = true ∨ romFetch s.rom s.pc.out = none → ∃ t, step s = .next t ∧ t.pc = s.pc)

/-- For every Register, input and write bit: out becomes the old pending value, and the pending value becomes the input if write =
1 and stays otherwise; so a call with write = 1 and X gives the old pending value, and a following call with write = 0 gives
X. -/
def Obligations.RegisterExposesWhatAnEarlierCallLatched : Prop :=
  ∀ (r : Storage) (x y : Word) (write : Bool),
    (registerProcess r write x).out = r.reg ∧
    (write = true → (registerProcess r write x).reg = x) ∧ (write = false → (registerProcess r write x).reg = r.reg) ∧
    (registerProcess r true x).out = r.reg ∧ (registerProcess (registerProcess r true x) false y).out = x

/-- With reset the output is ZERO, else the old pending value; with load the pending value is the input, else the output plus one;
from PC.reg = 0x0005 the spec's three example rows result. That reset leaves load and increment running is the choice of D5
(log 8). -/
def Obligations.ProgramCounterResetThenLoadThenIncrement : Prop :=
  (∀ (p : Storage) (reset load : Bool) (x : Word),
    (reset = true → (pcProcess p reset load x).out = 0#16) ∧ (reset = false → (pcProcess p reset load x).out = p.reg) ∧
    (load = true → (pcProcess p reset load x).reg = x) ∧
    (load = false → (pcProcess p reset load x).reg = (pcProcess p reset load x).out + 1#16)) ∧
  (∀ (o x : Word), pcProcess ⟨0x0005#16, o⟩ true false x = ⟨0x0001#16, 0x0000#16⟩ ∧
    pcProcess ⟨0x0005#16, o⟩ true true 0x0030#16 = ⟨0x0030#16, 0x0000#16⟩ ∧
    pcProcess ⟨0x0005#16, o⟩ false false x = ⟨0x0006#16, 0x0005#16⟩)

/-- For every Word and state: with the reset input at 1 the instruction completes, PC.out is ZERO, PC.reg is the A value before
the cycle if it takes a jump and ONE otherwise, and every other field but the input itself is what it is with the input at 0.
The reset level in a run and the reading of reset are D4 and D5 (log 5, log 8). -/
def Obligations.ResetInputActsOnThePcOnly : Prop :=
  ∀ (w : Word) (s : State), ∃ t0 t1,
    exec (decode w) { s with resetIn := false } = .next t0 ∧ exec (decode w) { s with resetIn := true } = .next t1 ∧
    t1.pc.out = 0#16 ∧ (takesJump w s → t1.pc.reg = s.a.reg) ∧ (¬ takesJump w s → t1.pc.reg = 1#16) ∧
    t1 = { t0 with pc := t1.pc, resetIn := true }

/-- After a write of v at a, every address reads as v if it is a and as before otherwise; an address no write of a sequence of
writes names reads ZERO from the empty store, and one it names reads the last value written there. -/
def Obligations.ReadsGiveTheLatestWrite : Prop :=
  (∀ (m : Memory) (a v b : Word), memRead (memWrite m a v) b = if b = a then v else memRead m b) ∧
  (∀ (writes : List (Word × Word)) (b : Word),
    memRead (writes.foldl (fun m p => memWrite m p.1 p.2) []) b =
      ((writes.reverse.find? (fun p => p.1 == b)).map Prod.snd).getD 0#16)

/-- With write = 1 the input is stored at the address, no other address changes, and the new latch is the input; with write = 0
nothing is stored and the latch is the Word at the address. -/
def Obligations.DataStoreWritesThenReads : Prop :=
  ∀ (r : DataStore) (address input : Word),
    (r.process address input true).mem = memWrite r.mem address input ∧
    (r.process address input true).out = input ∧
    (r.process address input true).out = memRead (r.process address input true).mem address ∧
    (r.process address input false).mem = r.mem ∧ (r.process address input false).out = memRead r.mem address

/-- The canonical form of the model's sparse data store (log 6) is unique: contents in that form that agree at every one of the
65536 addresses are equal as data. -/
def Obligations.MemoriesWithEqualReadsAreEqual : Prop :=
  ∀ m m' : Memory, m.wf = true → m'.wf = true → (∀ a, memRead m a = memRead m' a) → m = m'

/-- For every Word of either format: the cycle completes, addressM is A.out, the A value before the cycle, outM is the ALU output
of the same cycle; with bit 12 = 1 the store becomes MemWrite(addressM, outM), else it is unchanged; RAM.out is
MemRead(addressM) after that, and it is the y operand of the next cycle of any Word that selects inM. For a Word with bit 12 =
0 that reload of RAM.out, and with it the next y, rests on the data store being processed in every cycle, the choice of D13
(log 9). -/
def Obligations.EveryInstructionReachesTheDataStoreOnce : Prop :=
  ∀ (w : Word) (s : State), ∃ t, exec (decode w) s = .next t ∧ t.a.out = s.a.reg ∧
    t.ram.mem = (if w.getMsbD 12 then memWrite s.ram.mem t.a.out t.alu.out else s.ram.mem) ∧
    t.ram.out = memRead t.ram.mem t.a.out ∧
    t.alu.out = aluOut s.d.reg (if w.getMsbD 3 then s.ram.out else s.a.reg) (aluControlOf w) ∧
    ∀ w' : Word, w'.getMsbD 3 = true → ∃ t', exec (decode w') t = .next t' ∧
      t'.alu.out = aluOut t.d.reg (memRead t.ram.mem s.a.reg) (aluControlOf w')

/-- After any number of steps from any state the instruction store is what it was, so every fetch address gives what it gave: no
store reaches it. -/
def Obligations.NoRunWritesTheInstructionStore : Prop :=
  ∀ (n : Nat) (s t : State), After n s t → t.rom = s.rom ∧ ∀ a, romFetch t.rom a = romFetch s.rom a

/-- From every state that meets Inv (the data store and the instruction store in canonical form within the 65536 addresses, zr and
ng the flags of ALU.out) a step answers a next state, and that state meets Inv. -/
def Obligations.StepKeepsTheInvariant : Prop :=
  ∀ s : State, Inv s → ∃ t, step s = .next t ∧ Inv t

/-- State.reset meets Inv; the committed outputs are ZERO, every data address reads ZERO, every instruction address is absent,
halted is 0. That the flags describe ALU.out there rests on the model's own reset values of the ALU latch (log 1, log 2). -/
def Obligations.ResetMeetsTheInvariant : Prop :=
  Inv State.reset ∧ State.reset.a.out = 0#16 ∧ State.reset.d.out = 0#16 ∧ State.reset.pc.out = 0#16 ∧
  (∀ a, memRead State.reset.ram.mem a = 0#16) ∧ (∀ a, romFetch State.reset.rom a = none) ∧ State.reset.halted = false

/-- After every instruction, of either format and from every state, the flags are those of the final ALU output, which the
instruction computed in the same cycle; and the ALU function gives them for every operand and control. -/
def Obligations.FlagsDescribeTheResult : Prop :=
  (∀ (i : Instr) (s : State), ∃ t, exec i s = .next t ∧
    (t.alu.zr = true ↔ ∀ k, k < 16 → t.alu.out.getMsbD k = false) ∧ (t.alu.ng = true ↔ t.alu.out.getMsbD 0 = true)) ∧
  (∀ (x y : Word) (c : AluControl), (alu x y c).out = aluOut x y c ∧
    ((alu x y c).zr = true ↔ ∀ k, k < 16 → (alu x y c).out.getMsbD k = false) ∧
    ((alu x y c).ng = true ↔ (alu x y c).out.getMsbD 0 = true))

/-- For every i in 0..15, Not(w)<i> = 1 - w<i> and And(w, v)<i> = w<i> and v<i>; u(Not(w)) = 65535 - u(w); Not(0x00FF) = 0xFF00
and And(0x0F0F, 0x00FF) = 0x000F. -/
def Obligations.NotAndAndActOnEveryBit : Prop :=
  ∀ w v : Word, (∀ i, i < 16 → (notW w).getMsbD i = !w.getMsbD i) ∧
    (∀ i, i < 16 → (andW w v).getMsbD i = (w.getMsbD i && v.getMsbD i)) ∧
    (notW w).toNat = 65535 - w.toNat ∧
    notW 0x00FF#16 = 0xFF00#16 ∧ andW 0x0F0F#16 0x00FF#16 = 0x000F#16

/-- For all Words the sixteen-stage ripple-carry procedure (R78) gives the Adder of the model, the Word whose unsigned value is
u(a) + u(b) modulo 65536 and whose signed value is s(a) + s(b) reduced into -32768..32767 (R79). That the cycle uses the sum,
and the full-adder equations of a stage, which are general knowledge in the spec (G4), are log 14. -/
def Obligations.RippleCarryAdderIsTheModularSum : Prop :=
  ∀ a b : Word, rippleAdder a b = adder a b ∧ (adder a b).toNat = (a.toNat + b.toNat) % 65536 ∧
    (adder a b).toInt = (a.toInt + b.toInt).bmod 65536

/-- Two states that agree on everything but A.out, D.out and the two flags agree on it again after any number of steps (R25, R33). -/
def Obligations.OutputsAndFlagsOfThePastAreNeverRead : Prop :=
  ∀ (n : Nat) (s s' t : State), SameKept s s' → After n s t → ∃ t', After n s' t' ∧ SameKept t t'

/-- Every launch of a program whose first Word is 0xEA80 reaches, after two cycles, A = D = ZERO, ALU.out = ZERO, RAM.out =
MemRead(0), PC.out = 1, with the data store as seeded; two launches of it that differ in the open ALU latch alone reach one
and the same state. The two executions and A = D = ZERO rest on PENDING_INIT = ZERO, the choice of D1 (log 3), and RAM.out =
MemRead(0) and the fetch address on those of D13 and D14 (log 9). -/
def Obligations.StartIdiomForgetsTheOpenLaunchValues : Prop :=
  ∀ (l l' : AluLatch) (p : List Word) (sd : List (Word × Word)), p.head? = some 0xEA80#16 →
    ∃ t, After 2 (launchState l p sd) t ∧ After 2 (launchState l' p sd) t ∧
      t.a = ⟨0#16, 0#16⟩ ∧ t.d = ⟨0#16, 0#16⟩ ∧ t.alu.out = 0#16 ∧ t.pc = ⟨2#16, 1#16⟩ ∧
      t.ram.mem = (launchState l p sd).ram.mem ∧ t.ram.out = memRead t.ram.mem 0#16

/-- For a program of at most 65536 Words and any seeds: address k holds the k-th Word and every other address is absent; a data
address holds the value of the last seed for it, ZERO without one; RAM.out is the last seed's value, ZERO without one; A, D
and PC are ZERO, halted is 0, the reset input is 0, and the state meets Inv if the open ALU latch's flags describe it. The
pending values and the latch without a seed are the spec's own decisions D1 and D3 (log 3, log 4). -/
def Obligations.LaunchPlacesProgramAndSeeds : Prop :=
  ∀ (l : AluLatch) (p : List Word) (sd : List (Word × Word)), p.length ≤ 65536 →
    (∀ a : Word, romFetch (launchState l p sd).rom a = p[a.toNat]?) ∧
    (∀ b : Word, memRead (launchState l p sd).ram.mem b =
      ((sd.reverse.find? (fun x => x.1 == b)).map Prod.snd).getD 0#16) ∧
    (launchState l p sd).ram.out = (sd.getLast?.map Prod.snd).getD 0#16 ∧
    (launchState l p sd).a = ⟨0#16, 0#16⟩ ∧ (launchState l p sd).d = ⟨0#16, 0#16⟩ ∧
    (launchState l p sd).pc = ⟨0#16, 0#16⟩ ∧ (launchState l p sd).alu = l ∧
    (launchState l p sd).halted = false ∧ (launchState l p sd).resetIn = false ∧
    (l.zr = zrFlag l.out → l.ng = ngFlag l.out → Inv (launchState l p sd))

/-- A host Word is accepted exactly when it has 16 elements, each 0 or 1, and every Word is the meaning of its own bits, first bit
most significant; a launch with a malformed Word is refused, and so is one of more than 65536 Words, else it gives the launch
state; a reset level other than 0 and 1 is refused; a result read gives MemRead after the halt and is refused before it, and
one of a malformed address is refused. These refusals are D9, D12 and D15 (log 11). That malformedWord is the one named where
two refusals apply, in a launch that is too long as well or a read before the halt, is the model's choice (log 19). -/
def Obligations.HostLaunchAcceptsOrRefusesByName : Prop :=
  (∀ h : HostWord, (hostWord h).isSome = true ↔ h.length = 16 ∧ ∀ x ∈ h, x = 0 ∨ x = 1) ∧
  (∀ w : Word, hostWord ((List.range 16).map fun i => (w.getMsbD i).toNat) = some w) ∧
  (∀ (l : AluLatch) (p : List HostWord) (sd : List (HostWord × HostWord)),
    ((∃ h ∈ p, hostWord h = none) ∨ (∃ x ∈ sd, hostWord x.1 = none ∨ hostWord x.2 = none) →
      launch l p sd = .refused .malformedWord) ∧
    (∀ ws sds, p.map hostWord = ws.map some → sd.map (fun x => (hostWord x.1, hostWord x.2)) = sds.map (fun x => (some x.1, some x.2)) →
      launch l p sd = if ws.length ≤ 65536 then .next (launchState l ws sds) else .refused .programTooLong)) ∧
  (∀ s, driveReset 0 s = .next { s with resetIn := false } ∧ driveReset 1 s = .next { s with resetIn := true } ∧
    ∀ k, 2 ≤ k → driveReset k s = .refused .badResetLevel) ∧
  (∀ h a s, hostWord h = some a → hostRead h s =
    if s.halted then .value (memRead s.ram.mem a) else .refused .hostAccessDuringRun) ∧
  (∀ h s, hostWord h = none → hostRead h s = .refused .malformedWord)

/-- The first step of a launch without a program sets halted and changes nothing else. The fetch address is the choice of D14 (log
9), the halt as a next state log 7. -/
def Obligations.EmptyProgramHaltsInTheLaunchState : Prop :=
  ∀ (l : AluLatch) (sd : List (Word × Word)),
    step (launchState l [] sd) = .next { launchState l [] sd with halted := true }

/-- For every launch of a nonempty program the first two steps both execute the Word at address 0 completely; the third fetch is
at address 1, or at address 0 if the instruction jumped in cycle 1 (A is ZERO then). This rests on PENDING_INIT = ZERO, the
choice of D1 (log 3), and on the fetch at PC.out, that of D14 (log 9). -/
def Obligations.AddressZeroExecutesTwiceAtLaunch : Prop :=
  ∀ (l : AluLatch) (w : Word) (rest : List Word) (sd : List (Word × Word)),
    ∃ t1 t2, step (launchState l (w :: rest) sd) = .next t1 ∧ exec (decode w) (launchState l (w :: rest) sd) = .next t1 ∧
      t1.pc.out = 0#16 ∧ step t1 = .next t2 ∧ exec (decode w) t1 = .next t2 ∧
      (¬ takesJump w (launchState l (w :: rest) sd) → t2.pc.out = 1#16) ∧
      (takesJump w (launchState l (w :: rest) sd) → t2.pc.out = 0#16)

/-- For every program of n Words, 1 <= n < 65536, none of which has a jump (an A-instruction, or j = 000), and every launch of it:
after n + 1 steps the machine has not halted and PC.out is n; step n + 2 sets halted and changes nothing else. (With n = 65536
the PC wraps and no fetch is absent.) The count rests on PENDING_INIT = ZERO, the choice of D1 (log 3), on the fetch at
PC.out, that of D14 (log 9), and on the halt as a next state (log 7). -/
def Obligations.StraightLineProgramHaltsAfterNPlusTwoCycles : Prop :=
  ∀ (l : AluLatch) (p : List Word) (sd : List (Word × Word)), 1 ≤ p.length → p.length < 65536 →
    (∀ w ∈ p, w.getMsbD 0 = false ∨ w.extractLsb' 0 3 = 0#3) →
    ∃ t, After (p.length + 1) (launchState l p sd) t ∧ ¬ Ended t ∧ t.pc.out = BitVec.ofNat 16 p.length ∧
      After (p.length + 2) (launchState l p sd) { t with halted := true }

/-- For any two consecutive instructions, the first from any state: the M operand of the second is the data at the A value before
the first, and its store, with bit 12 = 1, goes to the A value the first left; a third instruction's M operand is the data at
that new address, after the second's store. The lag of one instruction rests on the data store being processed in every cycle,
the choice of D13 (log 9). -/
def Obligations.MOperandLagsAAndStoresDoNot : Prop :=
  ∀ (w1 w2 w3 : Word) (s : State), ∃ t1 t2 t3,
    exec (decode w1) s = .next t1 ∧ exec (decode w2) t1 = .next t2 ∧ exec (decode w3) t2 = .next t3 ∧
    (w2.getMsbD 3 = true → t2.alu.out = aluOut t1.d.reg (memRead t1.ram.mem s.a.reg) (aluControlOf w2)) ∧
    (w2.getMsbD 12 = true → ∀ b, memRead t2.ram.mem b = if b = t1.a.reg then t2.alu.out else memRead t1.ram.mem b) ∧
    (w3.getMsbD 3 = true → t3.alu.out = aluOut t2.d.reg (memRead t2.ram.mem t1.a.reg) (aluControlOf w3))

/-- For any three consecutive instructions: D after the second is the first's result exactly when the second writes D (an
A-instruction or dD = 1) and D's earlier value otherwise; the third computes with that D; the same for A with dA = 1 of a
C-instruction, while an A-instruction puts its own Word there. -/
def Obligations.ResultReachesAOrDThroughTheNextInstruction : Prop :=
  ∀ (w1 w2 w3 : Word) (s : State), ∃ t1 t2 t3,
    exec (decode w1) s = .next t1 ∧ exec (decode w2) t1 = .next t2 ∧ exec (decode w3) t2 = .next t3 ∧
    t2.d.reg = (if w2.getMsbD 0 = false ∨ w2.getMsbD 11 = true then t1.alu.out else t1.d.reg) ∧
    t2.a.reg = (if w2.getMsbD 0 = false then w2 else if w2.getMsbD 10 = true then t1.alu.out else t1.a.reg) ∧
    t3.d.out = t2.d.reg ∧ t3.a.out = t2.a.reg ∧
    t3.alu.out = aluOut t2.d.reg (if w3.getMsbD 3 then t2.ram.out else t2.a.reg) (aluControlOf w3)

end
end

