-- ==== Sys2Proof/Laws/Encoding.lean ====
section
/-! SUPPORT. The fields of an encoded C-instruction, and a C-instruction put together again from its fields. -/

namespace Sys2Proof.Laws

/-- The control code of a Word, I[11:6]. -/
def codeOf (w : Word) : BitVec 6 := w.extractLsb' 6 6

theorem wordBit_eq_getLsbD (w : Word) (i : Nat) : wordBit w i = (decide (i < 16) && w.getLsbD (15 - i)) := rfl

@[simp] theorem getLsbD_bitAt (b : Bool) (n k : Nat) : (bitAt b n).getLsbD k = (decide (k < 16) && (decide (k = n) && b)) := by
  simp only [bitAt, BitVec.getLsbD_shiftLeft, BitVec.getLsbD_setWidth, BitVec.getLsbD_ofBool]
  rcases Nat.lt_trichotomy k n with h | rfl | h
  · simp [h, Nat.ne_of_lt h]
  · simp
  · simp [Nat.sub_ne_zero_of_lt h, Nat.ne_of_gt h]

@[simp] theorem getElem_bitAt (b : Bool) (n k : Nat) (h : k < 16) : (bitAt b n)[k] = (decide (k = n) && b) := by
  rw [← BitVec.getLsbD_eq_getElem, getLsbD_bitAt]
  simp [h]

section
variable (u : BitVec 2) (a : Bool) (c : BitVec 6) (d : Dest) (j : Jump)

@[simp] theorem wordBit_zero_cWord : wordBit (cWord u a c d j) 0 = true := by
  simp [wordBit_eq_getLsbD, cWord]

@[simp] theorem wordBit_three_cWord : wordBit (cWord u a c d j) 3 = a := by
  simp [wordBit_eq_getLsbD, cWord]

@[simp] theorem unusedOf_cWord : unusedOf (cWord u a c d j) = u := by
  ext k hk
  have : k = 0 ∨ k = 1 := by omega
  rcases this with rfl | rfl <;> simp [unusedOf, cWord]

@[simp] theorem aluControlOf_cWord : aluControlOf (cWord u a c d j) = aluCode c := by
  simp [aluControlOf, aluCode, wordBit_eq_getLsbD, cWord, BitVec.getMsbD]

@[simp] theorem destOf_cWord : destOf (cWord u a c d j) = d := by
  simp [destOf, wordBit_eq_getLsbD, cWord]

@[simp] theorem jumpOf_cWord : jumpOf (cWord u a c d j) = j := by
  simp [jumpOf, wordBit_eq_getLsbD, cWord]

/-- Under the mask of a C row only bit ⟨0⟩, the a bit and the code are left. -/
theorem cWord_and_cMask : cWord u a c d j &&& cMask = cWord 0#2 a c ⟨false, false, false⟩ ⟨false, false, false⟩ := by
  ext k hk
  simp only [← BitVec.getLsbD_eq_getElem]
  interval_cases k <;> simp [cWord, cMask]

end

theorem aluCode_codeOf (w : Word) : aluCode (codeOf w) = aluControlOf w := by
  simp [aluControlOf, aluCode, codeOf, wordBit_eq_getLsbD, BitVec.getMsbD]

/-- A Word with bit ⟨0⟩ = 1 is the C-instruction of its fields. -/
theorem cWord_fields (w : Word) (h : wordBit w 0 = true) :
    cWord (unusedOf w) (wordBit w 3) (codeOf w) (destOf w) (jumpOf w) = w := by
  simp only [wordBit_eq_getLsbD] at h
  ext k hk
  simp only [← BitVec.getLsbD_eq_getElem]
  interval_cases k <;> simp_all [cWord, unusedOf, codeOf, destOf, jumpOf, wordBit_eq_getLsbD]

theorem and_signBit_of_wellFormed (v : Word) (h : (Instr.atV v).wellFormed = true) : v &&& 0x8000#16 = 0x0000#16 := by
  simp only [Instr.wellFormed, Bool.not_eq_true', BitVec.getMsbD] at h
  ext k hk
  simp only [← BitVec.getLsbD_eq_getElem]
  interval_cases k <;> simp_all

end Sys2Proof.Laws
end

