-- ==== Sys2Proof/Laws/State.lean ====
section
/-! SUPPORT. What each update of State does to each field. -/

namespace Sys2Proof.Machine

@[simp] theorem State.withA_a (s : State) (x : Storage) : (s.withA x).a = x := rfl
@[simp] theorem State.withA_d (s : State) (x : Storage) : (s.withA x).d = s.d := rfl
@[simp] theorem State.withA_pc (s : State) (x : Storage) : (s.withA x).pc = s.pc := rfl
@[simp] theorem State.withA_alu (s : State) (x : Storage) : (s.withA x).alu = s.alu := rfl
@[simp] theorem State.withA_ram (s : State) (x : Storage) : (s.withA x).ram = s.ram := rfl
@[simp] theorem State.withA_rom (s : State) (x : Storage) : (s.withA x).rom = s.rom := rfl
@[simp] theorem State.withA_halted (s : State) (x : Storage) : (s.withA x).halted = s.halted := rfl
@[simp] theorem State.withA_resetIn (s : State) (x : Storage) : (s.withA x).resetIn = s.resetIn := rfl
@[simp] theorem State.withD_a (s : State) (x : Storage) : (s.withD x).a = s.a := rfl
@[simp] theorem State.withD_d (s : State) (x : Storage) : (s.withD x).d = x := rfl
@[simp] theorem State.withD_pc (s : State) (x : Storage) : (s.withD x).pc = s.pc := rfl
@[simp] theorem State.withD_alu (s : State) (x : Storage) : (s.withD x).alu = s.alu := rfl
@[simp] theorem State.withD_ram (s : State) (x : Storage) : (s.withD x).ram = s.ram := rfl
@[simp] theorem State.withD_rom (s : State) (x : Storage) : (s.withD x).rom = s.rom := rfl
@[simp] theorem State.withD_halted (s : State) (x : Storage) : (s.withD x).halted = s.halted := rfl
@[simp] theorem State.withD_resetIn (s : State) (x : Storage) : (s.withD x).resetIn = s.resetIn := rfl
@[simp] theorem State.withPc_a (s : State) (x : Storage) : (s.withPc x).a = s.a := rfl
@[simp] theorem State.withPc_d (s : State) (x : Storage) : (s.withPc x).d = s.d := rfl
@[simp] theorem State.withPc_pc (s : State) (x : Storage) : (s.withPc x).pc = x := rfl
@[simp] theorem State.withPc_alu (s : State) (x : Storage) : (s.withPc x).alu = s.alu := rfl
@[simp] theorem State.withPc_ram (s : State) (x : Storage) : (s.withPc x).ram = s.ram := rfl
@[simp] theorem State.withPc_rom (s : State) (x : Storage) : (s.withPc x).rom = s.rom := rfl
@[simp] theorem State.withPc_halted (s : State) (x : Storage) : (s.withPc x).halted = s.halted := rfl
@[simp] theorem State.withPc_resetIn (s : State) (x : Storage) : (s.withPc x).resetIn = s.resetIn := rfl
@[simp] theorem State.withAlu_a (s : State) (x : AluLatch) : (s.withAlu x).a = s.a := rfl
@[simp] theorem State.withAlu_d (s : State) (x : AluLatch) : (s.withAlu x).d = s.d := rfl
@[simp] theorem State.withAlu_pc (s : State) (x : AluLatch) : (s.withAlu x).pc = s.pc := rfl
@[simp] theorem State.withAlu_alu (s : State) (x : AluLatch) : (s.withAlu x).alu = x := rfl
@[simp] theorem State.withAlu_ram (s : State) (x : AluLatch) : (s.withAlu x).ram = s.ram := rfl
@[simp] theorem State.withAlu_rom (s : State) (x : AluLatch) : (s.withAlu x).rom = s.rom := rfl
@[simp] theorem State.withAlu_halted (s : State) (x : AluLatch) : (s.withAlu x).halted = s.halted := rfl
@[simp] theorem State.withAlu_resetIn (s : State) (x : AluLatch) : (s.withAlu x).resetIn = s.resetIn := rfl
@[simp] theorem State.withRam_a (s : State) (x : DataStore) : (s.withRam x).a = s.a := rfl
@[simp] theorem State.withRam_d (s : State) (x : DataStore) : (s.withRam x).d = s.d := rfl
@[simp] theorem State.withRam_pc (s : State) (x : DataStore) : (s.withRam x).pc = s.pc := rfl
@[simp] theorem State.withRam_alu (s : State) (x : DataStore) : (s.withRam x).alu = s.alu := rfl
@[simp] theorem State.withRam_ram (s : State) (x : DataStore) : (s.withRam x).ram = x := rfl
@[simp] theorem State.withRam_rom (s : State) (x : DataStore) : (s.withRam x).rom = s.rom := rfl
@[simp] theorem State.withRam_halted (s : State) (x : DataStore) : (s.withRam x).halted = s.halted := rfl
@[simp] theorem State.withRam_resetIn (s : State) (x : DataStore) : (s.withRam x).resetIn = s.resetIn := rfl
@[simp] theorem State.withRom_a (s : State) (x : Rom) : (s.withRom x).a = s.a := rfl
@[simp] theorem State.withRom_d (s : State) (x : Rom) : (s.withRom x).d = s.d := rfl
@[simp] theorem State.withRom_pc (s : State) (x : Rom) : (s.withRom x).pc = s.pc := rfl
@[simp] theorem State.withRom_alu (s : State) (x : Rom) : (s.withRom x).alu = s.alu := rfl
@[simp] theorem State.withRom_ram (s : State) (x : Rom) : (s.withRom x).ram = s.ram := rfl
@[simp] theorem State.withRom_rom (s : State) (x : Rom) : (s.withRom x).rom = x := rfl
@[simp] theorem State.withRom_halted (s : State) (x : Rom) : (s.withRom x).halted = s.halted := rfl
@[simp] theorem State.withRom_resetIn (s : State) (x : Rom) : (s.withRom x).resetIn = s.resetIn := rfl
@[simp] theorem State.withHalted_a (s : State) (x : Bool) : (s.withHalted x).a = s.a := rfl
@[simp] theorem State.withHalted_d (s : State) (x : Bool) : (s.withHalted x).d = s.d := rfl
@[simp] theorem State.withHalted_pc (s : State) (x : Bool) : (s.withHalted x).pc = s.pc := rfl
@[simp] theorem State.withHalted_alu (s : State) (x : Bool) : (s.withHalted x).alu = s.alu := rfl
@[simp] theorem State.withHalted_ram (s : State) (x : Bool) : (s.withHalted x).ram = s.ram := rfl
@[simp] theorem State.withHalted_rom (s : State) (x : Bool) : (s.withHalted x).rom = s.rom := rfl
@[simp] theorem State.withHalted_halted (s : State) (x : Bool) : (s.withHalted x).halted = x := rfl
@[simp] theorem State.withHalted_resetIn (s : State) (x : Bool) : (s.withHalted x).resetIn = s.resetIn := rfl
@[simp] theorem State.withResetIn_a (s : State) (x : Bool) : (s.withResetIn x).a = s.a := rfl
@[simp] theorem State.withResetIn_d (s : State) (x : Bool) : (s.withResetIn x).d = s.d := rfl
@[simp] theorem State.withResetIn_pc (s : State) (x : Bool) : (s.withResetIn x).pc = s.pc := rfl
@[simp] theorem State.withResetIn_alu (s : State) (x : Bool) : (s.withResetIn x).alu = s.alu := rfl
@[simp] theorem State.withResetIn_ram (s : State) (x : Bool) : (s.withResetIn x).ram = s.ram := rfl
@[simp] theorem State.withResetIn_rom (s : State) (x : Bool) : (s.withResetIn x).rom = s.rom := rfl
@[simp] theorem State.withResetIn_halted (s : State) (x : Bool) : (s.withResetIn x).halted = s.halted := rfl
@[simp] theorem State.withResetIn_resetIn (s : State) (x : Bool) : (s.withResetIn x).resetIn = x := rfl

/-- Two states with the same fields are one state. -/
theorem State.ext_fields {s t : State} (ha : s.a = t.a) (hd : s.d = t.d) (hpc : s.pc = t.pc) (halu : s.alu = t.alu)
    (hram : s.ram = t.ram) (hrom : s.rom = t.rom) (hh : s.halted = t.halted) (hr : s.resetIn = t.resetIn) : s = t := by
  cases s; cases t; simp_all

end Sys2Proof.Machine
end

