-- ==== Sys2Proof/Laws/Cycle.lean ====
section
/-! SUPPORT. What a cycle does to every field, and what executing a decoded Word is. -/

namespace Sys2Proof.Machine

section
variable (c : Control) (s : State)

@[simp] theorem cycle_a : (cycle c s).a = registerProcess s.a (!c.isC || c.d.dA) (mux c.word s.alu.out c.isC) := rfl

@[simp] theorem cycle_d : (cycle c s).d = registerProcess s.d (!c.isC || c.d.dD) s.alu.out := rfl

@[simp] theorem cycle_alu : (cycle c s).alu = alu s.d.reg (mux s.a.reg s.ram.out c.a) c.alu := rfl

@[simp] theorem cycle_pc : (cycle c s).pc =
    pcProcess s.pc s.resetIn (jumpDecision c.isC c.j (cycle c s).alu.zr (cycle c s).alu.ng) s.a.reg := rfl

@[simp] theorem cycle_ram : (cycle c s).ram = s.ram.process s.a.reg (cycle c s).alu.out c.d.dM := rfl

@[simp] theorem cycle_rom : (cycle c s).rom = s.rom := rfl

@[simp] theorem cycle_halted : (cycle c s).halted = s.halted := rfl

@[simp] theorem cycle_resetIn : (cycle c s).resetIn = s.resetIn := rfl

end

/-- Of a C-instruction's Word the cycle uses nothing that its other control lines do not say. -/
theorem cycle_word_of_isC (c : Control) (s : State) (w : Word) (h : c.isC = true) :
    cycle { c with word := w } s = cycle c s := by
  simp [cycle, clockA, clockD, runAlu, clockPc, clockRam, yOperand, mux, h]

/-- Executing the instruction of a row of the opcode table, whatever the row. -/
theorem exec_decodeC (a : Bool) (k : AluControl) (u : BitVec 2) (d : Dest) (j : Jump) (w : Word) (s : State) :
    exec (decodeC a k u d j) s =
      .next (cycle { isC := true, word := w, a := a, alu := k, d := d, j := j } s) := by
  obtain ⟨zx, nx, zy, ny, f, no⟩ := k
  cases a <;> cases zx <;> cases nx <;> cases zy <;> cases ny <;> cases f <;> cases no <;> rfl

/-- The control lines of a Word: its bits, each in the place R65 gives it. -/
def controlOf (w : Word) : Control :=
  { isC := wordBit w 0, word := w, a := wordBit w 3, alu := aluControlOf w, d := destOf w, j := jumpOf w }

/-- Executing a decoded Word is one cycle with that Word's bits on the control lines. -/
theorem exec_decode (w : Word) (s : State) : exec (decode w) s = .next (cycle (controlOf w) s) := by
  unfold decode
  split
  next h => rw [exec_decodeC _ _ _ _ _ w]; simp [controlOf, h]
  next h => simp only [Bool.not_eq_true] at h; simp [exec, execAtV, aInstruction, aControl, controlOf, h]

/-- Whatever the instruction, executing it is one complete cycle with some control lines. -/
theorem exec_is_cycle (i : Instr) (s : State) : ∃ c, exec i s = .next (cycle c s) := by
  cases i <;> exact ⟨_, rfl⟩

/-- The three things a step can do. -/
theorem step_cases (s : State) :
    (s.halted = true ∧ step s = .next s) ∨
    (s.halted = false ∧ fetch s = none ∧ step s = .next (s.withHalted true)) ∨
    (∃ w, s.halted = false ∧ fetch s = some w ∧ step s = .next (cycle (controlOf w) s)) := by
  unfold step
  cases hh : s.halted with
  | true => exact .inl ⟨rfl, rfl⟩
  | false =>
    cases hf : fetch s with
    | none => exact .inr (.inl ⟨rfl, rfl, rfl⟩)
    | some w => exact .inr (.inr ⟨w, rfl, rfl, exec_decode w s⟩)

end Sys2Proof.Machine
end

