-- ==== Sys2Proof/Laws/Store.lean ====
section
/-! SUPPORT. The sparse stores: reading after writing, and the canonical form every memory operation keeps. -/

namespace Sys2Proof.Machine

theorem storeGet_storeSet (m : List WordCell) (addr b : Nat) (v : Word) :
    storeGet (storeSet m addr v) b = if b = addr then some v else storeGet m b := by
  induction m with
  | nil => simp [storeSet, storeGet, eq_comm]
  | cons p rest ih =>
    obtain ⟨k, w⟩ := p
    simp only [storeSet, storeGet]
    split_ifs <;> simp_all [storeGet] <;> omega

theorem storeGet_storeErase (m : List WordCell) (addr b : Nat) :
    storeGet (storeErase m addr) b = if b = addr then none else storeGet m b := by
  induction m with
  | nil => simp [storeErase, storeGet]
  | cons p rest ih =>
    obtain ⟨k, w⟩ := p
    simp only [storeErase, storeGet]
    split_ifs <;> simp_all [storeGet]

theorem risingFrom_mono {size low low' : Nat} {m : List WordCell} (hle : low' ≤ low)
    (h : risingFrom size low m = true) : risingFrom size low' m = true := by
  cases m with
  | nil => rfl
  | cons p rest => simp_all [risingFrom]; omega

theorem risingFrom_storeSet {size low addr : Nat} {m : List WordCell} (v : Word) (hlow : low ≤ addr) (hsize : addr < size)
    (h : risingFrom size low m = true) : risingFrom size low (storeSet m addr v) = true := by
  induction m generalizing low with
  | nil => simp [storeSet, risingFrom, hlow, hsize]
  | cons p rest ih =>
    obtain ⟨k, w⟩ := p
    simp only [risingFrom, Bool.and_eq_true, decide_eq_true_eq] at h
    simp only [storeSet]
    split_ifs with h1 h2
    · simp [risingFrom, h.1, ih (show k + 1 ≤ addr from h1) h.2]
    · subst h2; simp [risingFrom, h.1, h.2]
    · have : addr < k := by omega
      simp [risingFrom, hlow, hsize, h.1, h.2, this]

theorem risingFrom_storeErase {size low addr : Nat} {m : List WordCell}
    (h : risingFrom size low m = true) : risingFrom size low (storeErase m addr) = true := by
  induction m generalizing low with
  | nil => rfl
  | cons p rest ih =>
    obtain ⟨k, w⟩ := p
    simp only [risingFrom, Bool.and_eq_true, decide_eq_true_eq] at h
    simp only [storeErase]
    split_ifs
    · exact risingFrom_mono (by omega) (ih h.2)
    · simp [risingFrom, h.1, ih h.2]

theorem noZero_storeSet {m : List WordCell} {addr : Nat} {v : Word} (hv : v ≠ 0#16) (h : noZero m = true) :
    noZero (storeSet m addr v) = true := by
  induction m with
  | nil => simp [storeSet, noZero, hv]
  | cons p rest ih =>
    obtain ⟨k, w⟩ := p
    simp only [noZero, Bool.and_eq_true] at h
    simp only [storeSet]
    split_ifs <;> simp_all [noZero]

theorem noZero_storeErase {m : List WordCell} {addr : Nat} (h : noZero m = true) : noZero (storeErase m addr) = true := by
  induction m with
  | nil => rfl
  | cons p rest ih =>
    obtain ⟨k, w⟩ := p
    simp only [noZero, Bool.and_eq_true] at h
    simp only [storeErase]
    split_ifs <;> simp_all [noZero]

@[simp] theorem memRead_nil (addr : Word) : memRead [] addr = 0#16 := rfl

/-- A write keeps the canonical form of the data store's contents. -/
theorem memWrite_wf {m : Memory} (addr v : Word) (h : m.wf = true) : Memory.wf (memWrite m addr v) = true := by
  simp only [Memory.wf, Bool.and_eq_true] at h ⊢
  unfold memWrite
  split_ifs with hv
  · exact ⟨risingFrom_storeErase h.1, noZero_storeErase h.2⟩
  · exact ⟨risingFrom_storeSet v (Nat.zero_le _) addr.isLt h.1, noZero_storeSet hv h.2⟩

/-- The data store's clocked operation keeps the canonical form. -/
theorem process_mem_wf {r : DataStore} (addr v : Word) (write : Bool) (h : r.mem.wf = true) :
    (r.process addr v write).mem.wf = true := by
  cases write
  · exact h
  · exact memWrite_wf addr v h

/-- A location below the first listed one is not listed. -/
theorem storeGet_eq_none_of_lt {size low addr : Nat} {m : List WordCell} (h : risingFrom size low m = true) (ha : addr < low) :
    storeGet m addr = none := by
  induction m generalizing low with
  | nil => rfl
  | cons p rest ih =>
    obtain ⟨k, w⟩ := p
    simp only [risingFrom, Bool.and_eq_true, decide_eq_true_eq] at h
    simp only [storeGet]
    rw [if_neg (by omega)]
    exact ih h.2 (by omega)

/-- The instruction store's `set` keeps the canonical form. -/
theorem romSet_wf {r : Rom} (addr v : Word) (h : r.wf = true) : Rom.wf (romSet r addr v) = true :=
  risingFrom_storeSet v (Nat.zero_le _) addr.isLt h

/-- A fetch after the instruction store's `set`. -/
theorem romFetch_romSet (r : Rom) (addr b v : Word) :
    romFetch (romSet r addr v) b = if b = addr then some v else romFetch r b := by
  simp [romFetch, romSet, storeGet_storeSet, BitVec.toNat_inj]

end Sys2Proof.Machine
end

