-- ==== Sys2Proof/Laws/Launch.lean ====
section
/-! SUPPORT. The image a program leaves in the instruction store, and the form the seeds leave the data store in. -/

namespace Sys2Proof.Machine

/-- The image of a program placed from k on: its i-th Word at k + i, every other address absent. -/
theorem storeGet_programImage (k : Nat) (p : List Word) (b : Nat) :
    storeGet (programImage k p) b = if k ≤ b then p[b - k]? else none := by
  induction p generalizing k with
  | nil => simp [programImage, storeGet]
  | cons w rest ih =>
    simp only [programImage, storeGet, ih]
    by_cases h : k = b
    · subst h; simp
    · rw [if_neg h]
      by_cases h' : k ≤ b
      · obtain ⟨n, hn⟩ : ∃ n, b - k = n + 1 := ⟨b - k - 1, by omega⟩
        rw [if_pos (by omega), if_pos h', hn, List.getElem?_cons_succ, show b - (k + 1) = n by omega]
      · rw [if_neg (by omega), if_neg h']

/-- The image of a program that fits is in canonical form. -/
theorem risingFrom_programImage (size k : Nat) (p : List Word) (h : k + p.length ≤ size) :
    risingFrom size k (programImage k p) = true := by
  induction p generalizing k with
  | nil => rfl
  | cons w rest ih =>
    simp only [List.length_cons] at h
    simp only [programImage, risingFrom, Bool.and_eq_true, decide_eq_true_eq]
    exact ⟨⟨Nat.le_refl _, by omega⟩, ih (k + 1) (by omega)⟩

/-- Seeding keeps the canonical form of the data store's contents. -/
theorem seedRam_mem_wf (r : DataStore) (seeds : List (Word × Word)) (h : r.mem.wf = true) :
    (seedRam r seeds).mem.wf = true := by
  induction seeds generalizing r with
  | nil => exact h
  | cons p rest ih => exact ih _ (process_mem_wf p.1 p.2 true h)

end Sys2Proof.Machine
end

