-- ==== Sys2Proof/Laws/PerInstr.lean ====
section
/-! SUPPORT. Per-instruction laws: every well-formed instruction's Word matches the row of spec/opcode_table.json its constructor
stands for (R70). -/

/-- The Word of an instruction matches its own row of the opcode table. -/
def Sys2Proof.Laws.TableRow.Statement (i : Sys2Proof.Instr) : Prop :=
  i.wellFormed = true → Sys2Proof.encode i &&& i.row.mask = i.row.pattern

theorem Sys2Proof.Laws.TableRow.atV (v : Sys2Proof.Word) : Sys2Proof.Laws.TableRow.Statement (.atV v) :=
  Sys2Proof.Laws.and_signBit_of_wellFormed v

theorem Sys2Proof.Laws.TableRow.c000000a0 (u : BitVec 2) (d : Sys2Proof.Dest) (j : Sys2Proof.Jump) :
    Sys2Proof.Laws.TableRow.Statement (.c000000a0 u d j) :=
  fun _ => (Sys2Proof.Laws.cWord_and_cMask u false 0b000000#6 d j).trans rfl

theorem Sys2Proof.Laws.TableRow.c000001a0 (u : BitVec 2) (d : Sys2Proof.Dest) (j : Sys2Proof.Jump) :
    Sys2Proof.Laws.TableRow.Statement (.c000001a0 u d j) :=
  fun _ => (Sys2Proof.Laws.cWord_and_cMask u false 0b000001#6 d j).trans rfl

theorem Sys2Proof.Laws.TableRow.c000010a0 (u : BitVec 2) (d : Sys2Proof.Dest) (j : Sys2Proof.Jump) :
    Sys2Proof.Laws.TableRow.Statement (.c000010a0 u d j) :=
  fun _ => (Sys2Proof.Laws.cWord_and_cMask u false 0b000010#6 d j).trans rfl

theorem Sys2Proof.Laws.TableRow.c000011a0 (u : BitVec 2) (d : Sys2Proof.Dest) (j : Sys2Proof.Jump) :
    Sys2Proof.Laws.TableRow.Statement (.c000011a0 u d j) :=
  fun _ => (Sys2Proof.Laws.cWord_and_cMask u false 0b000011#6 d j).trans rfl

theorem Sys2Proof.Laws.TableRow.c000100a0 (u : BitVec 2) (d : Sys2Proof.Dest) (j : Sys2Proof.Jump) :
    Sys2Proof.Laws.TableRow.Statement (.c000100a0 u d j) :=
  fun _ => (Sys2Proof.Laws.cWord_and_cMask u false 0b000100#6 d j).trans rfl

theorem Sys2Proof.Laws.TableRow.c000101a0 (u : BitVec 2) (d : Sys2Proof.Dest) (j : Sys2Proof.Jump) :
    Sys2Proof.Laws.TableRow.Statement (.c000101a0 u d j) :=
  fun _ => (Sys2Proof.Laws.cWord_and_cMask u false 0b000101#6 d j).trans rfl

theorem Sys2Proof.Laws.TableRow.c000110a0 (u : BitVec 2) (d : Sys2Proof.Dest) (j : Sys2Proof.Jump) :
    Sys2Proof.Laws.TableRow.Statement (.c000110a0 u d j) :=
  fun _ => (Sys2Proof.Laws.cWord_and_cMask u false 0b000110#6 d j).trans rfl

theorem Sys2Proof.Laws.TableRow.c000111a0 (u : BitVec 2) (d : Sys2Proof.Dest) (j : Sys2Proof.Jump) :
    Sys2Proof.Laws.TableRow.Statement (.c000111a0 u d j) :=
  fun _ => (Sys2Proof.Laws.cWord_and_cMask u false 0b000111#6 d j).trans rfl

theorem Sys2Proof.Laws.TableRow.c001000a0 (u : BitVec 2) (d : Sys2Proof.Dest) (j : Sys2Proof.Jump) :
    Sys2Proof.Laws.TableRow.Statement (.c001000a0 u d j) :=
  fun _ => (Sys2Proof.Laws.cWord_and_cMask u false 0b001000#6 d j).trans rfl

theorem Sys2Proof.Laws.TableRow.c001001a0 (u : BitVec 2) (d : Sys2Proof.Dest) (j : Sys2Proof.Jump) :
    Sys2Proof.Laws.TableRow.Statement (.c001001a0 u d j) :=
  fun _ => (Sys2Proof.Laws.cWord_and_cMask u false 0b001001#6 d j).trans rfl

theorem Sys2Proof.Laws.TableRow.c001010a0 (u : BitVec 2) (d : Sys2Proof.Dest) (j : Sys2Proof.Jump) :
    Sys2Proof.Laws.TableRow.Statement (.c001010a0 u d j) :=
  fun _ => (Sys2Proof.Laws.cWord_and_cMask u false 0b001010#6 d j).trans rfl

theorem Sys2Proof.Laws.TableRow.c001011a0 (u : BitVec 2) (d : Sys2Proof.Dest) (j : Sys2Proof.Jump) :
    Sys2Proof.Laws.TableRow.Statement (.c001011a0 u d j) :=
  fun _ => (Sys2Proof.Laws.cWord_and_cMask u false 0b001011#6 d j).trans rfl

theorem Sys2Proof.Laws.TableRow.c001100a0 (u : BitVec 2) (d : Sys2Proof.Dest) (j : Sys2Proof.Jump) :
    Sys2Proof.Laws.TableRow.Statement (.c001100a0 u d j) :=
  fun _ => (Sys2Proof.Laws.cWord_and_cMask u false 0b001100#6 d j).trans rfl

theorem Sys2Proof.Laws.TableRow.c001101a0 (u : BitVec 2) (d : Sys2Proof.Dest) (j : Sys2Proof.Jump) :
    Sys2Proof.Laws.TableRow.Statement (.c001101a0 u d j) :=
  fun _ => (Sys2Proof.Laws.cWord_and_cMask u false 0b001101#6 d j).trans rfl

theorem Sys2Proof.Laws.TableRow.c001110a0 (u : BitVec 2) (d : Sys2Proof.Dest) (j : Sys2Proof.Jump) :
    Sys2Proof.Laws.TableRow.Statement (.c001110a0 u d j) :=
  fun _ => (Sys2Proof.Laws.cWord_and_cMask u false 0b001110#6 d j).trans rfl

theorem Sys2Proof.Laws.TableRow.c001111a0 (u : BitVec 2) (d : Sys2Proof.Dest) (j : Sys2Proof.Jump) :
    Sys2Proof.Laws.TableRow.Statement (.c001111a0 u d j) :=
  fun _ => (Sys2Proof.Laws.cWord_and_cMask u false 0b001111#6 d j).trans rfl

theorem Sys2Proof.Laws.TableRow.c010000a0 (u : BitVec 2) (d : Sys2Proof.Dest) (j : Sys2Proof.Jump) :
    Sys2Proof.Laws.TableRow.Statement (.c010000a0 u d j) :=
  fun _ => (Sys2Proof.Laws.cWord_and_cMask u false 0b010000#6 d j).trans rfl

theorem Sys2Proof.Laws.TableRow.c010001a0 (u : BitVec 2) (d : Sys2Proof.Dest) (j : Sys2Proof.Jump) :
    Sys2Proof.Laws.TableRow.Statement (.c010001a0 u d j) :=
  fun _ => (Sys2Proof.Laws.cWord_and_cMask u false 0b010001#6 d j).trans rfl

theorem Sys2Proof.Laws.TableRow.c010010a0 (u : BitVec 2) (d : Sys2Proof.Dest) (j : Sys2Proof.Jump) :
    Sys2Proof.Laws.TableRow.Statement (.c010010a0 u d j) :=
  fun _ => (Sys2Proof.Laws.cWord_and_cMask u false 0b010010#6 d j).trans rfl

theorem Sys2Proof.Laws.TableRow.c010011a0 (u : BitVec 2) (d : Sys2Proof.Dest) (j : Sys2Proof.Jump) :
    Sys2Proof.Laws.TableRow.Statement (.c010011a0 u d j) :=
  fun _ => (Sys2Proof.Laws.cWord_and_cMask u false 0b010011#6 d j).trans rfl

theorem Sys2Proof.Laws.TableRow.c010100a0 (u : BitVec 2) (d : Sys2Proof.Dest) (j : Sys2Proof.Jump) :
    Sys2Proof.Laws.TableRow.Statement (.c010100a0 u d j) :=
  fun _ => (Sys2Proof.Laws.cWord_and_cMask u false 0b010100#6 d j).trans rfl

theorem Sys2Proof.Laws.TableRow.c010101a0 (u : BitVec 2) (d : Sys2Proof.Dest) (j : Sys2Proof.Jump) :
    Sys2Proof.Laws.TableRow.Statement (.c010101a0 u d j) :=
  fun _ => (Sys2Proof.Laws.cWord_and_cMask u false 0b010101#6 d j).trans rfl

theorem Sys2Proof.Laws.TableRow.c010110a0 (u : BitVec 2) (d : Sys2Proof.Dest) (j : Sys2Proof.Jump) :
    Sys2Proof.Laws.TableRow.Statement (.c010110a0 u d j) :=
  fun _ => (Sys2Proof.Laws.cWord_and_cMask u false 0b010110#6 d j).trans rfl

theorem Sys2Proof.Laws.TableRow.c010111a0 (u : BitVec 2) (d : Sys2Proof.Dest) (j : Sys2Proof.Jump) :
    Sys2Proof.Laws.TableRow.Statement (.c010111a0 u d j) :=
  fun _ => (Sys2Proof.Laws.cWord_and_cMask u false 0b010111#6 d j).trans rfl

theorem Sys2Proof.Laws.TableRow.c011000a0 (u : BitVec 2) (d : Sys2Proof.Dest) (j : Sys2Proof.Jump) :
    Sys2Proof.Laws.TableRow.Statement (.c011000a0 u d j) :=
  fun _ => (Sys2Proof.Laws.cWord_and_cMask u false 0b011000#6 d j).trans rfl

theorem Sys2Proof.Laws.TableRow.c011001a0 (u : BitVec 2) (d : Sys2Proof.Dest) (j : Sys2Proof.Jump) :
    Sys2Proof.Laws.TableRow.Statement (.c011001a0 u d j) :=
  fun _ => (Sys2Proof.Laws.cWord_and_cMask u false 0b011001#6 d j).trans rfl

theorem Sys2Proof.Laws.TableRow.c011010a0 (u : BitVec 2) (d : Sys2Proof.Dest) (j : Sys2Proof.Jump) :
    Sys2Proof.Laws.TableRow.Statement (.c011010a0 u d j) :=
  fun _ => (Sys2Proof.Laws.cWord_and_cMask u false 0b011010#6 d j).trans rfl

theorem Sys2Proof.Laws.TableRow.c011011a0 (u : BitVec 2) (d : Sys2Proof.Dest) (j : Sys2Proof.Jump) :
    Sys2Proof.Laws.TableRow.Statement (.c011011a0 u d j) :=
  fun _ => (Sys2Proof.Laws.cWord_and_cMask u false 0b011011#6 d j).trans rfl

theorem Sys2Proof.Laws.TableRow.c011100a0 (u : BitVec 2) (d : Sys2Proof.Dest) (j : Sys2Proof.Jump) :
    Sys2Proof.Laws.TableRow.Statement (.c011100a0 u d j) :=
  fun _ => (Sys2Proof.Laws.cWord_and_cMask u false 0b011100#6 d j).trans rfl

theorem Sys2Proof.Laws.TableRow.c011101a0 (u : BitVec 2) (d : Sys2Proof.Dest) (j : Sys2Proof.Jump) :
    Sys2Proof.Laws.TableRow.Statement (.c011101a0 u d j) :=
  fun _ => (Sys2Proof.Laws.cWord_and_cMask u false 0b011101#6 d j).trans rfl

theorem Sys2Proof.Laws.TableRow.c011110a0 (u : BitVec 2) (d : Sys2Proof.Dest) (j : Sys2Proof.Jump) :
    Sys2Proof.Laws.TableRow.Statement (.c011110a0 u d j) :=
  fun _ => (Sys2Proof.Laws.cWord_and_cMask u false 0b011110#6 d j).trans rfl

theorem Sys2Proof.Laws.TableRow.c011111a0 (u : BitVec 2) (d : Sys2Proof.Dest) (j : Sys2Proof.Jump) :
    Sys2Proof.Laws.TableRow.Statement (.c011111a0 u d j) :=
  fun _ => (Sys2Proof.Laws.cWord_and_cMask u false 0b011111#6 d j).trans rfl

theorem Sys2Proof.Laws.TableRow.c100000a0 (u : BitVec 2) (d : Sys2Proof.Dest) (j : Sys2Proof.Jump) :
    Sys2Proof.Laws.TableRow.Statement (.c100000a0 u d j) :=
  fun _ => (Sys2Proof.Laws.cWord_and_cMask u false 0b100000#6 d j).trans rfl

theorem Sys2Proof.Laws.TableRow.c100001a0 (u : BitVec 2) (d : Sys2Proof.Dest) (j : Sys2Proof.Jump) :
    Sys2Proof.Laws.TableRow.Statement (.c100001a0 u d j) :=
  fun _ => (Sys2Proof.Laws.cWord_and_cMask u false 0b100001#6 d j).trans rfl

theorem Sys2Proof.Laws.TableRow.c100010a0 (u : BitVec 2) (d : Sys2Proof.Dest) (j : Sys2Proof.Jump) :
    Sys2Proof.Laws.TableRow.Statement (.c100010a0 u d j) :=
  fun _ => (Sys2Proof.Laws.cWord_and_cMask u false 0b100010#6 d j).trans rfl

theorem Sys2Proof.Laws.TableRow.c100011a0 (u : BitVec 2) (d : Sys2Proof.Dest) (j : Sys2Proof.Jump) :
    Sys2Proof.Laws.TableRow.Statement (.c100011a0 u d j) :=
  fun _ => (Sys2Proof.Laws.cWord_and_cMask u false 0b100011#6 d j).trans rfl

theorem Sys2Proof.Laws.TableRow.c100100a0 (u : BitVec 2) (d : Sys2Proof.Dest) (j : Sys2Proof.Jump) :
    Sys2Proof.Laws.TableRow.Statement (.c100100a0 u d j) :=
  fun _ => (Sys2Proof.Laws.cWord_and_cMask u false 0b100100#6 d j).trans rfl

theorem Sys2Proof.Laws.TableRow.c100101a0 (u : BitVec 2) (d : Sys2Proof.Dest) (j : Sys2Proof.Jump) :
    Sys2Proof.Laws.TableRow.Statement (.c100101a0 u d j) :=
  fun _ => (Sys2Proof.Laws.cWord_and_cMask u false 0b100101#6 d j).trans rfl

theorem Sys2Proof.Laws.TableRow.c100110a0 (u : BitVec 2) (d : Sys2Proof.Dest) (j : Sys2Proof.Jump) :
    Sys2Proof.Laws.TableRow.Statement (.c100110a0 u d j) :=
  fun _ => (Sys2Proof.Laws.cWord_and_cMask u false 0b100110#6 d j).trans rfl

theorem Sys2Proof.Laws.TableRow.c100111a0 (u : BitVec 2) (d : Sys2Proof.Dest) (j : Sys2Proof.Jump) :
    Sys2Proof.Laws.TableRow.Statement (.c100111a0 u d j) :=
  fun _ => (Sys2Proof.Laws.cWord_and_cMask u false 0b100111#6 d j).trans rfl

theorem Sys2Proof.Laws.TableRow.c101000a0 (u : BitVec 2) (d : Sys2Proof.Dest) (j : Sys2Proof.Jump) :
    Sys2Proof.Laws.TableRow.Statement (.c101000a0 u d j) :=
  fun _ => (Sys2Proof.Laws.cWord_and_cMask u false 0b101000#6 d j).trans rfl

theorem Sys2Proof.Laws.TableRow.c101001a0 (u : BitVec 2) (d : Sys2Proof.Dest) (j : Sys2Proof.Jump) :
    Sys2Proof.Laws.TableRow.Statement (.c101001a0 u d j) :=
  fun _ => (Sys2Proof.Laws.cWord_and_cMask u false 0b101001#6 d j).trans rfl

theorem Sys2Proof.Laws.TableRow.c101010a0 (u : BitVec 2) (d : Sys2Proof.Dest) (j : Sys2Proof.Jump) :
    Sys2Proof.Laws.TableRow.Statement (.c101010a0 u d j) :=
  fun _ => (Sys2Proof.Laws.cWord_and_cMask u false 0b101010#6 d j).trans rfl

theorem Sys2Proof.Laws.TableRow.c101011a0 (u : BitVec 2) (d : Sys2Proof.Dest) (j : Sys2Proof.Jump) :
    Sys2Proof.Laws.TableRow.Statement (.c101011a0 u d j) :=
  fun _ => (Sys2Proof.Laws.cWord_and_cMask u false 0b101011#6 d j).trans rfl

theorem Sys2Proof.Laws.TableRow.c101100a0 (u : BitVec 2) (d : Sys2Proof.Dest) (j : Sys2Proof.Jump) :
    Sys2Proof.Laws.TableRow.Statement (.c101100a0 u d j) :=
  fun _ => (Sys2Proof.Laws.cWord_and_cMask u false 0b101100#6 d j).trans rfl

theorem Sys2Proof.Laws.TableRow.c101101a0 (u : BitVec 2) (d : Sys2Proof.Dest) (j : Sys2Proof.Jump) :
    Sys2Proof.Laws.TableRow.Statement (.c101101a0 u d j) :=
  fun _ => (Sys2Proof.Laws.cWord_and_cMask u false 0b101101#6 d j).trans rfl

theorem Sys2Proof.Laws.TableRow.c101110a0 (u : BitVec 2) (d : Sys2Proof.Dest) (j : Sys2Proof.Jump) :
    Sys2Proof.Laws.TableRow.Statement (.c101110a0 u d j) :=
  fun _ => (Sys2Proof.Laws.cWord_and_cMask u false 0b101110#6 d j).trans rfl

theorem Sys2Proof.Laws.TableRow.c101111a0 (u : BitVec 2) (d : Sys2Proof.Dest) (j : Sys2Proof.Jump) :
    Sys2Proof.Laws.TableRow.Statement (.c101111a0 u d j) :=
  fun _ => (Sys2Proof.Laws.cWord_and_cMask u false 0b101111#6 d j).trans rfl

theorem Sys2Proof.Laws.TableRow.c110000a0 (u : BitVec 2) (d : Sys2Proof.Dest) (j : Sys2Proof.Jump) :
    Sys2Proof.Laws.TableRow.Statement (.c110000a0 u d j) :=
  fun _ => (Sys2Proof.Laws.cWord_and_cMask u false 0b110000#6 d j).trans rfl

theorem Sys2Proof.Laws.TableRow.c110001a0 (u : BitVec 2) (d : Sys2Proof.Dest) (j : Sys2Proof.Jump) :
    Sys2Proof.Laws.TableRow.Statement (.c110001a0 u d j) :=
  fun _ => (Sys2Proof.Laws.cWord_and_cMask u false 0b110001#6 d j).trans rfl

theorem Sys2Proof.Laws.TableRow.c110010a0 (u : BitVec 2) (d : Sys2Proof.Dest) (j : Sys2Proof.Jump) :
    Sys2Proof.Laws.TableRow.Statement (.c110010a0 u d j) :=
  fun _ => (Sys2Proof.Laws.cWord_and_cMask u false 0b110010#6 d j).trans rfl

theorem Sys2Proof.Laws.TableRow.c110011a0 (u : BitVec 2) (d : Sys2Proof.Dest) (j : Sys2Proof.Jump) :
    Sys2Proof.Laws.TableRow.Statement (.c110011a0 u d j) :=
  fun _ => (Sys2Proof.Laws.cWord_and_cMask u false 0b110011#6 d j).trans rfl

theorem Sys2Proof.Laws.TableRow.c110100a0 (u : BitVec 2) (d : Sys2Proof.Dest) (j : Sys2Proof.Jump) :
    Sys2Proof.Laws.TableRow.Statement (.c110100a0 u d j) :=
  fun _ => (Sys2Proof.Laws.cWord_and_cMask u false 0b110100#6 d j).trans rfl

theorem Sys2Proof.Laws.TableRow.c110101a0 (u : BitVec 2) (d : Sys2Proof.Dest) (j : Sys2Proof.Jump) :
    Sys2Proof.Laws.TableRow.Statement (.c110101a0 u d j) :=
  fun _ => (Sys2Proof.Laws.cWord_and_cMask u false 0b110101#6 d j).trans rfl

theorem Sys2Proof.Laws.TableRow.c110110a0 (u : BitVec 2) (d : Sys2Proof.Dest) (j : Sys2Proof.Jump) :
    Sys2Proof.Laws.TableRow.Statement (.c110110a0 u d j) :=
  fun _ => (Sys2Proof.Laws.cWord_and_cMask u false 0b110110#6 d j).trans rfl

theorem Sys2Proof.Laws.TableRow.c110111a0 (u : BitVec 2) (d : Sys2Proof.Dest) (j : Sys2Proof.Jump) :
    Sys2Proof.Laws.TableRow.Statement (.c110111a0 u d j) :=
  fun _ => (Sys2Proof.Laws.cWord_and_cMask u false 0b110111#6 d j).trans rfl

theorem Sys2Proof.Laws.TableRow.c111000a0 (u : BitVec 2) (d : Sys2Proof.Dest) (j : Sys2Proof.Jump) :
    Sys2Proof.Laws.TableRow.Statement (.c111000a0 u d j) :=
  fun _ => (Sys2Proof.Laws.cWord_and_cMask u false 0b111000#6 d j).trans rfl

theorem Sys2Proof.Laws.TableRow.c111001a0 (u : BitVec 2) (d : Sys2Proof.Dest) (j : Sys2Proof.Jump) :
    Sys2Proof.Laws.TableRow.Statement (.c111001a0 u d j) :=
  fun _ => (Sys2Proof.Laws.cWord_and_cMask u false 0b111001#6 d j).trans rfl

theorem Sys2Proof.Laws.TableRow.c111010a0 (u : BitVec 2) (d : Sys2Proof.Dest) (j : Sys2Proof.Jump) :
    Sys2Proof.Laws.TableRow.Statement (.c111010a0 u d j) :=
  fun _ => (Sys2Proof.Laws.cWord_and_cMask u false 0b111010#6 d j).trans rfl

theorem Sys2Proof.Laws.TableRow.c111011a0 (u : BitVec 2) (d : Sys2Proof.Dest) (j : Sys2Proof.Jump) :
    Sys2Proof.Laws.TableRow.Statement (.c111011a0 u d j) :=
  fun _ => (Sys2Proof.Laws.cWord_and_cMask u false 0b111011#6 d j).trans rfl

theorem Sys2Proof.Laws.TableRow.c111100a0 (u : BitVec 2) (d : Sys2Proof.Dest) (j : Sys2Proof.Jump) :
    Sys2Proof.Laws.TableRow.Statement (.c111100a0 u d j) :=
  fun _ => (Sys2Proof.Laws.cWord_and_cMask u false 0b111100#6 d j).trans rfl

theorem Sys2Proof.Laws.TableRow.c111101a0 (u : BitVec 2) (d : Sys2Proof.Dest) (j : Sys2Proof.Jump) :
    Sys2Proof.Laws.TableRow.Statement (.c111101a0 u d j) :=
  fun _ => (Sys2Proof.Laws.cWord_and_cMask u false 0b111101#6 d j).trans rfl

theorem Sys2Proof.Laws.TableRow.c111110a0 (u : BitVec 2) (d : Sys2Proof.Dest) (j : Sys2Proof.Jump) :
    Sys2Proof.Laws.TableRow.Statement (.c111110a0 u d j) :=
  fun _ => (Sys2Proof.Laws.cWord_and_cMask u false 0b111110#6 d j).trans rfl

theorem Sys2Proof.Laws.TableRow.c111111a0 (u : BitVec 2) (d : Sys2Proof.Dest) (j : Sys2Proof.Jump) :
    Sys2Proof.Laws.TableRow.Statement (.c111111a0 u d j) :=
  fun _ => (Sys2Proof.Laws.cWord_and_cMask u false 0b111111#6 d j).trans rfl

theorem Sys2Proof.Laws.TableRow.c000000a1 (u : BitVec 2) (d : Sys2Proof.Dest) (j : Sys2Proof.Jump) :
    Sys2Proof.Laws.TableRow.Statement (.c000000a1 u d j) :=
  fun _ => (Sys2Proof.Laws.cWord_and_cMask u true 0b000000#6 d j).trans rfl

theorem Sys2Proof.Laws.TableRow.c000001a1 (u : BitVec 2) (d : Sys2Proof.Dest) (j : Sys2Proof.Jump) :
    Sys2Proof.Laws.TableRow.Statement (.c000001a1 u d j) :=
  fun _ => (Sys2Proof.Laws.cWord_and_cMask u true 0b000001#6 d j).trans rfl

theorem Sys2Proof.Laws.TableRow.c000010a1 (u : BitVec 2) (d : Sys2Proof.Dest) (j : Sys2Proof.Jump) :
    Sys2Proof.Laws.TableRow.Statement (.c000010a1 u d j) :=
  fun _ => (Sys2Proof.Laws.cWord_and_cMask u true 0b000010#6 d j).trans rfl

theorem Sys2Proof.Laws.TableRow.c000011a1 (u : BitVec 2) (d : Sys2Proof.Dest) (j : Sys2Proof.Jump) :
    Sys2Proof.Laws.TableRow.Statement (.c000011a1 u d j) :=
  fun _ => (Sys2Proof.Laws.cWord_and_cMask u true 0b000011#6 d j).trans rfl

theorem Sys2Proof.Laws.TableRow.c000100a1 (u : BitVec 2) (d : Sys2Proof.Dest) (j : Sys2Proof.Jump) :
    Sys2Proof.Laws.TableRow.Statement (.c000100a1 u d j) :=
  fun _ => (Sys2Proof.Laws.cWord_and_cMask u true 0b000100#6 d j).trans rfl

theorem Sys2Proof.Laws.TableRow.c000101a1 (u : BitVec 2) (d : Sys2Proof.Dest) (j : Sys2Proof.Jump) :
    Sys2Proof.Laws.TableRow.Statement (.c000101a1 u d j) :=
  fun _ => (Sys2Proof.Laws.cWord_and_cMask u true 0b000101#6 d j).trans rfl

theorem Sys2Proof.Laws.TableRow.c000110a1 (u : BitVec 2) (d : Sys2Proof.Dest) (j : Sys2Proof.Jump) :
    Sys2Proof.Laws.TableRow.Statement (.c000110a1 u d j) :=
  fun _ => (Sys2Proof.Laws.cWord_and_cMask u true 0b000110#6 d j).trans rfl

theorem Sys2Proof.Laws.TableRow.c000111a1 (u : BitVec 2) (d : Sys2Proof.Dest) (j : Sys2Proof.Jump) :
    Sys2Proof.Laws.TableRow.Statement (.c000111a1 u d j) :=
  fun _ => (Sys2Proof.Laws.cWord_and_cMask u true 0b000111#6 d j).trans rfl

theorem Sys2Proof.Laws.TableRow.c001000a1 (u : BitVec 2) (d : Sys2Proof.Dest) (j : Sys2Proof.Jump) :
    Sys2Proof.Laws.TableRow.Statement (.c001000a1 u d j) :=
  fun _ => (Sys2Proof.Laws.cWord_and_cMask u true 0b001000#6 d j).trans rfl

theorem Sys2Proof.Laws.TableRow.c001001a1 (u : BitVec 2) (d : Sys2Proof.Dest) (j : Sys2Proof.Jump) :
    Sys2Proof.Laws.TableRow.Statement (.c001001a1 u d j) :=
  fun _ => (Sys2Proof.Laws.cWord_and_cMask u true 0b001001#6 d j).trans rfl

theorem Sys2Proof.Laws.TableRow.c001010a1 (u : BitVec 2) (d : Sys2Proof.Dest) (j : Sys2Proof.Jump) :
    Sys2Proof.Laws.TableRow.Statement (.c001010a1 u d j) :=
  fun _ => (Sys2Proof.Laws.cWord_and_cMask u true 0b001010#6 d j).trans rfl

theorem Sys2Proof.Laws.TableRow.c001011a1 (u : BitVec 2) (d : Sys2Proof.Dest) (j : Sys2Proof.Jump) :
    Sys2Proof.Laws.TableRow.Statement (.c001011a1 u d j) :=
  fun _ => (Sys2Proof.Laws.cWord_and_cMask u true 0b001011#6 d j).trans rfl

theorem Sys2Proof.Laws.TableRow.c001100a1 (u : BitVec 2) (d : Sys2Proof.Dest) (j : Sys2Proof.Jump) :
    Sys2Proof.Laws.TableRow.Statement (.c001100a1 u d j) :=
  fun _ => (Sys2Proof.Laws.cWord_and_cMask u true 0b001100#6 d j).trans rfl

theorem Sys2Proof.Laws.TableRow.c001101a1 (u : BitVec 2) (d : Sys2Proof.Dest) (j : Sys2Proof.Jump) :
    Sys2Proof.Laws.TableRow.Statement (.c001101a1 u d j) :=
  fun _ => (Sys2Proof.Laws.cWord_and_cMask u true 0b001101#6 d j).trans rfl

theorem Sys2Proof.Laws.TableRow.c001110a1 (u : BitVec 2) (d : Sys2Proof.Dest) (j : Sys2Proof.Jump) :
    Sys2Proof.Laws.TableRow.Statement (.c001110a1 u d j) :=
  fun _ => (Sys2Proof.Laws.cWord_and_cMask u true 0b001110#6 d j).trans rfl

theorem Sys2Proof.Laws.TableRow.c001111a1 (u : BitVec 2) (d : Sys2Proof.Dest) (j : Sys2Proof.Jump) :
    Sys2Proof.Laws.TableRow.Statement (.c001111a1 u d j) :=
  fun _ => (Sys2Proof.Laws.cWord_and_cMask u true 0b001111#6 d j).trans rfl

theorem Sys2Proof.Laws.TableRow.c010000a1 (u : BitVec 2) (d : Sys2Proof.Dest) (j : Sys2Proof.Jump) :
    Sys2Proof.Laws.TableRow.Statement (.c010000a1 u d j) :=
  fun _ => (Sys2Proof.Laws.cWord_and_cMask u true 0b010000#6 d j).trans rfl

theorem Sys2Proof.Laws.TableRow.c010001a1 (u : BitVec 2) (d : Sys2Proof.Dest) (j : Sys2Proof.Jump) :
    Sys2Proof.Laws.TableRow.Statement (.c010001a1 u d j) :=
  fun _ => (Sys2Proof.Laws.cWord_and_cMask u true 0b010001#6 d j).trans rfl

theorem Sys2Proof.Laws.TableRow.c010010a1 (u : BitVec 2) (d : Sys2Proof.Dest) (j : Sys2Proof.Jump) :
    Sys2Proof.Laws.TableRow.Statement (.c010010a1 u d j) :=
  fun _ => (Sys2Proof.Laws.cWord_and_cMask u true 0b010010#6 d j).trans rfl

theorem Sys2Proof.Laws.TableRow.c010011a1 (u : BitVec 2) (d : Sys2Proof.Dest) (j : Sys2Proof.Jump) :
    Sys2Proof.Laws.TableRow.Statement (.c010011a1 u d j) :=
  fun _ => (Sys2Proof.Laws.cWord_and_cMask u true 0b010011#6 d j).trans rfl

theorem Sys2Proof.Laws.TableRow.c010100a1 (u : BitVec 2) (d : Sys2Proof.Dest) (j : Sys2Proof.Jump) :
    Sys2Proof.Laws.TableRow.Statement (.c010100a1 u d j) :=
  fun _ => (Sys2Proof.Laws.cWord_and_cMask u true 0b010100#6 d j).trans rfl

theorem Sys2Proof.Laws.TableRow.c010101a1 (u : BitVec 2) (d : Sys2Proof.Dest) (j : Sys2Proof.Jump) :
    Sys2Proof.Laws.TableRow.Statement (.c010101a1 u d j) :=
  fun _ => (Sys2Proof.Laws.cWord_and_cMask u true 0b010101#6 d j).trans rfl

theorem Sys2Proof.Laws.TableRow.c010110a1 (u : BitVec 2) (d : Sys2Proof.Dest) (j : Sys2Proof.Jump) :
    Sys2Proof.Laws.TableRow.Statement (.c010110a1 u d j) :=
  fun _ => (Sys2Proof.Laws.cWord_and_cMask u true 0b010110#6 d j).trans rfl

theorem Sys2Proof.Laws.TableRow.c010111a1 (u : BitVec 2) (d : Sys2Proof.Dest) (j : Sys2Proof.Jump) :
    Sys2Proof.Laws.TableRow.Statement (.c010111a1 u d j) :=
  fun _ => (Sys2Proof.Laws.cWord_and_cMask u true 0b010111#6 d j).trans rfl

theorem Sys2Proof.Laws.TableRow.c011000a1 (u : BitVec 2) (d : Sys2Proof.Dest) (j : Sys2Proof.Jump) :
    Sys2Proof.Laws.TableRow.Statement (.c011000a1 u d j) :=
  fun _ => (Sys2Proof.Laws.cWord_and_cMask u true 0b011000#6 d j).trans rfl

theorem Sys2Proof.Laws.TableRow.c011001a1 (u : BitVec 2) (d : Sys2Proof.Dest) (j : Sys2Proof.Jump) :
    Sys2Proof.Laws.TableRow.Statement (.c011001a1 u d j) :=
  fun _ => (Sys2Proof.Laws.cWord_and_cMask u true 0b011001#6 d j).trans rfl

theorem Sys2Proof.Laws.TableRow.c011010a1 (u : BitVec 2) (d : Sys2Proof.Dest) (j : Sys2Proof.Jump) :
    Sys2Proof.Laws.TableRow.Statement (.c011010a1 u d j) :=
  fun _ => (Sys2Proof.Laws.cWord_and_cMask u true 0b011010#6 d j).trans rfl

theorem Sys2Proof.Laws.TableRow.c011011a1 (u : BitVec 2) (d : Sys2Proof.Dest) (j : Sys2Proof.Jump) :
    Sys2Proof.Laws.TableRow.Statement (.c011011a1 u d j) :=
  fun _ => (Sys2Proof.Laws.cWord_and_cMask u true 0b011011#6 d j).trans rfl

theorem Sys2Proof.Laws.TableRow.c011100a1 (u : BitVec 2) (d : Sys2Proof.Dest) (j : Sys2Proof.Jump) :
    Sys2Proof.Laws.TableRow.Statement (.c011100a1 u d j) :=
  fun _ => (Sys2Proof.Laws.cWord_and_cMask u true 0b011100#6 d j).trans rfl

theorem Sys2Proof.Laws.TableRow.c011101a1 (u : BitVec 2) (d : Sys2Proof.Dest) (j : Sys2Proof.Jump) :
    Sys2Proof.Laws.TableRow.Statement (.c011101a1 u d j) :=
  fun _ => (Sys2Proof.Laws.cWord_and_cMask u true 0b011101#6 d j).trans rfl

theorem Sys2Proof.Laws.TableRow.c011110a1 (u : BitVec 2) (d : Sys2Proof.Dest) (j : Sys2Proof.Jump) :
    Sys2Proof.Laws.TableRow.Statement (.c011110a1 u d j) :=
  fun _ => (Sys2Proof.Laws.cWord_and_cMask u true 0b011110#6 d j).trans rfl

theorem Sys2Proof.Laws.TableRow.c011111a1 (u : BitVec 2) (d : Sys2Proof.Dest) (j : Sys2Proof.Jump) :
    Sys2Proof.Laws.TableRow.Statement (.c011111a1 u d j) :=
  fun _ => (Sys2Proof.Laws.cWord_and_cMask u true 0b011111#6 d j).trans rfl

theorem Sys2Proof.Laws.TableRow.c100000a1 (u : BitVec 2) (d : Sys2Proof.Dest) (j : Sys2Proof.Jump) :
    Sys2Proof.Laws.TableRow.Statement (.c100000a1 u d j) :=
  fun _ => (Sys2Proof.Laws.cWord_and_cMask u true 0b100000#6 d j).trans rfl

theorem Sys2Proof.Laws.TableRow.c100001a1 (u : BitVec 2) (d : Sys2Proof.Dest) (j : Sys2Proof.Jump) :
    Sys2Proof.Laws.TableRow.Statement (.c100001a1 u d j) :=
  fun _ => (Sys2Proof.Laws.cWord_and_cMask u true 0b100001#6 d j).trans rfl

theorem Sys2Proof.Laws.TableRow.c100010a1 (u : BitVec 2) (d : Sys2Proof.Dest) (j : Sys2Proof.Jump) :
    Sys2Proof.Laws.TableRow.Statement (.c100010a1 u d j) :=
  fun _ => (Sys2Proof.Laws.cWord_and_cMask u true 0b100010#6 d j).trans rfl

theorem Sys2Proof.Laws.TableRow.c100011a1 (u : BitVec 2) (d : Sys2Proof.Dest) (j : Sys2Proof.Jump) :
    Sys2Proof.Laws.TableRow.Statement (.c100011a1 u d j) :=
  fun _ => (Sys2Proof.Laws.cWord_and_cMask u true 0b100011#6 d j).trans rfl

theorem Sys2Proof.Laws.TableRow.c100100a1 (u : BitVec 2) (d : Sys2Proof.Dest) (j : Sys2Proof.Jump) :
    Sys2Proof.Laws.TableRow.Statement (.c100100a1 u d j) :=
  fun _ => (Sys2Proof.Laws.cWord_and_cMask u true 0b100100#6 d j).trans rfl

theorem Sys2Proof.Laws.TableRow.c100101a1 (u : BitVec 2) (d : Sys2Proof.Dest) (j : Sys2Proof.Jump) :
    Sys2Proof.Laws.TableRow.Statement (.c100101a1 u d j) :=
  fun _ => (Sys2Proof.Laws.cWord_and_cMask u true 0b100101#6 d j).trans rfl

theorem Sys2Proof.Laws.TableRow.c100110a1 (u : BitVec 2) (d : Sys2Proof.Dest) (j : Sys2Proof.Jump) :
    Sys2Proof.Laws.TableRow.Statement (.c100110a1 u d j) :=
  fun _ => (Sys2Proof.Laws.cWord_and_cMask u true 0b100110#6 d j).trans rfl

theorem Sys2Proof.Laws.TableRow.c100111a1 (u : BitVec 2) (d : Sys2Proof.Dest) (j : Sys2Proof.Jump) :
    Sys2Proof.Laws.TableRow.Statement (.c100111a1 u d j) :=
  fun _ => (Sys2Proof.Laws.cWord_and_cMask u true 0b100111#6 d j).trans rfl

theorem Sys2Proof.Laws.TableRow.c101000a1 (u : BitVec 2) (d : Sys2Proof.Dest) (j : Sys2Proof.Jump) :
    Sys2Proof.Laws.TableRow.Statement (.c101000a1 u d j) :=
  fun _ => (Sys2Proof.Laws.cWord_and_cMask u true 0b101000#6 d j).trans rfl

theorem Sys2Proof.Laws.TableRow.c101001a1 (u : BitVec 2) (d : Sys2Proof.Dest) (j : Sys2Proof.Jump) :
    Sys2Proof.Laws.TableRow.Statement (.c101001a1 u d j) :=
  fun _ => (Sys2Proof.Laws.cWord_and_cMask u true 0b101001#6 d j).trans rfl

theorem Sys2Proof.Laws.TableRow.c101010a1 (u : BitVec 2) (d : Sys2Proof.Dest) (j : Sys2Proof.Jump) :
    Sys2Proof.Laws.TableRow.Statement (.c101010a1 u d j) :=
  fun _ => (Sys2Proof.Laws.cWord_and_cMask u true 0b101010#6 d j).trans rfl

theorem Sys2Proof.Laws.TableRow.c101011a1 (u : BitVec 2) (d : Sys2Proof.Dest) (j : Sys2Proof.Jump) :
    Sys2Proof.Laws.TableRow.Statement (.c101011a1 u d j) :=
  fun _ => (Sys2Proof.Laws.cWord_and_cMask u true 0b101011#6 d j).trans rfl

theorem Sys2Proof.Laws.TableRow.c101100a1 (u : BitVec 2) (d : Sys2Proof.Dest) (j : Sys2Proof.Jump) :
    Sys2Proof.Laws.TableRow.Statement (.c101100a1 u d j) :=
  fun _ => (Sys2Proof.Laws.cWord_and_cMask u true 0b101100#6 d j).trans rfl

theorem Sys2Proof.Laws.TableRow.c101101a1 (u : BitVec 2) (d : Sys2Proof.Dest) (j : Sys2Proof.Jump) :
    Sys2Proof.Laws.TableRow.Statement (.c101101a1 u d j) :=
  fun _ => (Sys2Proof.Laws.cWord_and_cMask u true 0b101101#6 d j).trans rfl

theorem Sys2Proof.Laws.TableRow.c101110a1 (u : BitVec 2) (d : Sys2Proof.Dest) (j : Sys2Proof.Jump) :
    Sys2Proof.Laws.TableRow.Statement (.c101110a1 u d j) :=
  fun _ => (Sys2Proof.Laws.cWord_and_cMask u true 0b101110#6 d j).trans rfl

theorem Sys2Proof.Laws.TableRow.c101111a1 (u : BitVec 2) (d : Sys2Proof.Dest) (j : Sys2Proof.Jump) :
    Sys2Proof.Laws.TableRow.Statement (.c101111a1 u d j) :=
  fun _ => (Sys2Proof.Laws.cWord_and_cMask u true 0b101111#6 d j).trans rfl

theorem Sys2Proof.Laws.TableRow.c110000a1 (u : BitVec 2) (d : Sys2Proof.Dest) (j : Sys2Proof.Jump) :
    Sys2Proof.Laws.TableRow.Statement (.c110000a1 u d j) :=
  fun _ => (Sys2Proof.Laws.cWord_and_cMask u true 0b110000#6 d j).trans rfl

theorem Sys2Proof.Laws.TableRow.c110001a1 (u : BitVec 2) (d : Sys2Proof.Dest) (j : Sys2Proof.Jump) :
    Sys2Proof.Laws.TableRow.Statement (.c110001a1 u d j) :=
  fun _ => (Sys2Proof.Laws.cWord_and_cMask u true 0b110001#6 d j).trans rfl

theorem Sys2Proof.Laws.TableRow.c110010a1 (u : BitVec 2) (d : Sys2Proof.Dest) (j : Sys2Proof.Jump) :
    Sys2Proof.Laws.TableRow.Statement (.c110010a1 u d j) :=
  fun _ => (Sys2Proof.Laws.cWord_and_cMask u true 0b110010#6 d j).trans rfl

theorem Sys2Proof.Laws.TableRow.c110011a1 (u : BitVec 2) (d : Sys2Proof.Dest) (j : Sys2Proof.Jump) :
    Sys2Proof.Laws.TableRow.Statement (.c110011a1 u d j) :=
  fun _ => (Sys2Proof.Laws.cWord_and_cMask u true 0b110011#6 d j).trans rfl

theorem Sys2Proof.Laws.TableRow.c110100a1 (u : BitVec 2) (d : Sys2Proof.Dest) (j : Sys2Proof.Jump) :
    Sys2Proof.Laws.TableRow.Statement (.c110100a1 u d j) :=
  fun _ => (Sys2Proof.Laws.cWord_and_cMask u true 0b110100#6 d j).trans rfl

theorem Sys2Proof.Laws.TableRow.c110101a1 (u : BitVec 2) (d : Sys2Proof.Dest) (j : Sys2Proof.Jump) :
    Sys2Proof.Laws.TableRow.Statement (.c110101a1 u d j) :=
  fun _ => (Sys2Proof.Laws.cWord_and_cMask u true 0b110101#6 d j).trans rfl

theorem Sys2Proof.Laws.TableRow.c110110a1 (u : BitVec 2) (d : Sys2Proof.Dest) (j : Sys2Proof.Jump) :
    Sys2Proof.Laws.TableRow.Statement (.c110110a1 u d j) :=
  fun _ => (Sys2Proof.Laws.cWord_and_cMask u true 0b110110#6 d j).trans rfl

theorem Sys2Proof.Laws.TableRow.c110111a1 (u : BitVec 2) (d : Sys2Proof.Dest) (j : Sys2Proof.Jump) :
    Sys2Proof.Laws.TableRow.Statement (.c110111a1 u d j) :=
  fun _ => (Sys2Proof.Laws.cWord_and_cMask u true 0b110111#6 d j).trans rfl

theorem Sys2Proof.Laws.TableRow.c111000a1 (u : BitVec 2) (d : Sys2Proof.Dest) (j : Sys2Proof.Jump) :
    Sys2Proof.Laws.TableRow.Statement (.c111000a1 u d j) :=
  fun _ => (Sys2Proof.Laws.cWord_and_cMask u true 0b111000#6 d j).trans rfl

theorem Sys2Proof.Laws.TableRow.c111001a1 (u : BitVec 2) (d : Sys2Proof.Dest) (j : Sys2Proof.Jump) :
    Sys2Proof.Laws.TableRow.Statement (.c111001a1 u d j) :=
  fun _ => (Sys2Proof.Laws.cWord_and_cMask u true 0b111001#6 d j).trans rfl

theorem Sys2Proof.Laws.TableRow.c111010a1 (u : BitVec 2) (d : Sys2Proof.Dest) (j : Sys2Proof.Jump) :
    Sys2Proof.Laws.TableRow.Statement (.c111010a1 u d j) :=
  fun _ => (Sys2Proof.Laws.cWord_and_cMask u true 0b111010#6 d j).trans rfl

theorem Sys2Proof.Laws.TableRow.c111011a1 (u : BitVec 2) (d : Sys2Proof.Dest) (j : Sys2Proof.Jump) :
    Sys2Proof.Laws.TableRow.Statement (.c111011a1 u d j) :=
  fun _ => (Sys2Proof.Laws.cWord_and_cMask u true 0b111011#6 d j).trans rfl

theorem Sys2Proof.Laws.TableRow.c111100a1 (u : BitVec 2) (d : Sys2Proof.Dest) (j : Sys2Proof.Jump) :
    Sys2Proof.Laws.TableRow.Statement (.c111100a1 u d j) :=
  fun _ => (Sys2Proof.Laws.cWord_and_cMask u true 0b111100#6 d j).trans rfl

theorem Sys2Proof.Laws.TableRow.c111101a1 (u : BitVec 2) (d : Sys2Proof.Dest) (j : Sys2Proof.Jump) :
    Sys2Proof.Laws.TableRow.Statement (.c111101a1 u d j) :=
  fun _ => (Sys2Proof.Laws.cWord_and_cMask u true 0b111101#6 d j).trans rfl

theorem Sys2Proof.Laws.TableRow.c111110a1 (u : BitVec 2) (d : Sys2Proof.Dest) (j : Sys2Proof.Jump) :
    Sys2Proof.Laws.TableRow.Statement (.c111110a1 u d j) :=
  fun _ => (Sys2Proof.Laws.cWord_and_cMask u true 0b111110#6 d j).trans rfl

theorem Sys2Proof.Laws.TableRow.c111111a1 (u : BitVec 2) (d : Sys2Proof.Dest) (j : Sys2Proof.Jump) :
    Sys2Proof.Laws.TableRow.Statement (.c111111a1 u d j) :=
  fun _ => (Sys2Proof.Laws.cWord_and_cMask u true 0b111111#6 d j).trans rfl
end

