-- ==== Sys2Proof/Tests/Slice0.lean ====
section
/-! SUPPORT. The model's own tests. Every expected value is a value of spec/95_test_vectors.md or of the rule named, worked out by
hand; then, for each statement of Certificates/Slice0/Obligations.lean with hypotheses, a state and operands that meet them. -/

namespace Sys2Proof.Tests

open Sys2Proof.Machine Sys2Proof.Spec

/-! ### Well-formedness and the table words -/

/-- The one check refuses a payload with bit ⟨0⟩ = 1 (R62), and nothing else. -/
theorem test_wellFormed : (Instr.atV 0x8000#16).wellFormed = false ∧ (Instr.atV 0xFFFF#16).wellFormed = false ∧
    (Instr.atV 0x7FFF#16).wellFormed = true ∧
    (Instr.c111111a1 0#2 ⟨true, true, true⟩ ⟨true, true, true⟩).wellFormed = true := by decide

/-- A table word of 16 bits is decoded; an instruction is never longer (R60). -/
theorem test_decodeTableWord : decodeTableWord 16 0x0005 = some (.atV 5#16) ∧
    decodeTableWord 16 0x9FC0 = some (.c111111a1 0#2 ⟨false, false, false⟩ ⟨false, false, false⟩) ∧
    decodeTableWord 32 0x0005 = none := by decide

/-! ### Decoding: the Word of every constructor, its bits written in the order of R65, `1 u u a c c c c c c d d d j j j` -/

/-- The A-instruction: the whole Word is the payload (R62), up to 0x7FFF. -/
theorem test_decode_aInstruction : decode 0b0000000000000101#16 = .atV 0x0005#16 ∧
    decode 0b0001111111001000#16 = .atV 0x1FC8#16 ∧ decode 0b0111111111111111#16 = .atV 0x7FFF#16 := by decide

/-- Constants, a = 0. -/
theorem test_decode_constants_a0 :
    decode 0b1110001000001010#16 = .c001000a0 3#2 ⟨false, false, true⟩ ⟨false, true, false⟩ ∧
    decode 0b1110001001110101#16 = .c001001a0 3#2 ⟨true, true, false⟩ ⟨true, false, true⟩ ∧
    decode 0b1000011000011000#16 = .c011000a0 0#2 ⟨false, true, true⟩ ⟨false, false, false⟩ ∧
    decode 0b1010011001000011#16 = .c011001a0 1#2 ⟨false, false, false⟩ ⟨false, true, true⟩ ∧
    decode 0b1100100000101110#16 = .c100000a0 2#2 ⟨true, false, true⟩ ⟨true, true, false⟩ ∧
    decode 0b1110100001010001#16 = .c100001a0 3#2 ⟨false, true, false⟩ ⟨false, false, true⟩ ∧
    decode 0b1110100100111100#16 = .c100100a0 3#2 ⟨true, true, true⟩ ⟨true, false, false⟩ ∧
    decode 0b1000100101100111#16 = .c100101a0 0#2 ⟨true, false, false⟩ ⟨true, true, true⟩ ∧
    decode 0b1010101000001010#16 = .c101000a0 1#2 ⟨false, false, true⟩ ⟨false, true, false⟩ ∧
    decode 0b1100101001110101#16 = .c101001a0 2#2 ⟨true, true, false⟩ ⟨true, false, true⟩ ∧
    decode 0b1110101010011000#16 = .c101010a0 3#2 ⟨false, true, true⟩ ⟨false, false, false⟩ ∧
    decode 0b1110101011000011#16 = .c101011a0 3#2 ⟨false, false, false⟩ ⟨false, true, true⟩ ∧
    decode 0b1000101100101110#16 = .c101100a0 0#2 ⟨true, false, true⟩ ⟨true, true, false⟩ ∧
    decode 0b1010101101010001#16 = .c101101a0 1#2 ⟨false, true, false⟩ ⟨false, false, true⟩ ∧
    decode 0b1100101110111100#16 = .c101110a0 2#2 ⟨true, true, true⟩ ⟨true, false, false⟩ ∧
    decode 0b1110101111100111#16 = .c101111a0 3#2 ⟨true, false, false⟩ ⟨true, true, true⟩ ∧
    decode 0b1110111000001010#16 = .c111000a0 3#2 ⟨false, false, true⟩ ⟨false, true, false⟩ ∧
    decode 0b1000111001110101#16 = .c111001a0 0#2 ⟨true, true, false⟩ ⟨true, false, true⟩ ∧
    decode 0b1010111010011000#16 = .c111010a0 1#2 ⟨false, true, true⟩ ⟨false, false, false⟩ ∧
    decode 0b1100111011000011#16 = .c111011a0 2#2 ⟨false, false, false⟩ ⟨false, true, true⟩ ∧
    decode 0b1110111100101110#16 = .c111100a0 3#2 ⟨true, false, true⟩ ⟨true, true, false⟩ ∧
    decode 0b1110111101010001#16 = .c111101a0 3#2 ⟨false, true, false⟩ ⟨false, false, true⟩ ∧
    decode 0b1000111110111100#16 = .c111110a0 0#2 ⟨true, true, true⟩ ⟨true, false, false⟩ ∧
    decode 0b1010111111100111#16 = .c111111a0 1#2 ⟨true, false, false⟩ ⟨true, true, true⟩ := by decide

/-- Constants, a = 1. -/
theorem test_decode_constants_a1 :
    decode 0b1101001000001010#16 = .c001000a1 2#2 ⟨false, false, true⟩ ⟨false, true, false⟩ ∧
    decode 0b1111001001110101#16 = .c001001a1 3#2 ⟨true, true, false⟩ ⟨true, false, true⟩ ∧
    decode 0b1111011000011000#16 = .c011000a1 3#2 ⟨false, true, true⟩ ⟨false, false, false⟩ ∧
    decode 0b1001011001000011#16 = .c011001a1 0#2 ⟨false, false, false⟩ ⟨false, true, true⟩ ∧
    decode 0b1011100000101110#16 = .c100000a1 1#2 ⟨true, false, true⟩ ⟨true, true, false⟩ ∧
    decode 0b1101100001010001#16 = .c100001a1 2#2 ⟨false, true, false⟩ ⟨false, false, true⟩ ∧
    decode 0b1111100100111100#16 = .c100100a1 3#2 ⟨true, true, true⟩ ⟨true, false, false⟩ ∧
    decode 0b1111100101100111#16 = .c100101a1 3#2 ⟨true, false, false⟩ ⟨true, true, true⟩ ∧
    decode 0b1001101000001010#16 = .c101000a1 0#2 ⟨false, false, true⟩ ⟨false, true, false⟩ ∧
    decode 0b1011101001110101#16 = .c101001a1 1#2 ⟨true, true, false⟩ ⟨true, false, true⟩ ∧
    decode 0b1101101010011000#16 = .c101010a1 2#2 ⟨false, true, true⟩ ⟨false, false, false⟩ ∧
    decode 0b1111101011000011#16 = .c101011a1 3#2 ⟨false, false, false⟩ ⟨false, true, true⟩ ∧
    decode 0b1111101100101110#16 = .c101100a1 3#2 ⟨true, false, true⟩ ⟨true, true, false⟩ ∧
    decode 0b1001101101010001#16 = .c101101a1 0#2 ⟨false, true, false⟩ ⟨false, false, true⟩ ∧
    decode 0b1011101110111100#16 = .c101110a1 1#2 ⟨true, true, true⟩ ⟨true, false, false⟩ ∧
    decode 0b1101101111100111#16 = .c101111a1 2#2 ⟨true, false, false⟩ ⟨true, true, true⟩ ∧
    decode 0b1111111000001010#16 = .c111000a1 3#2 ⟨false, false, true⟩ ⟨false, true, false⟩ ∧
    decode 0b1111111001110101#16 = .c111001a1 3#2 ⟨true, true, false⟩ ⟨true, false, true⟩ ∧
    decode 0b1001111010011000#16 = .c111010a1 0#2 ⟨false, true, true⟩ ⟨false, false, false⟩ ∧
    decode 0b1011111011000011#16 = .c111011a1 1#2 ⟨false, false, false⟩ ⟨false, true, true⟩ ∧
    decode 0b1101111100101110#16 = .c111100a1 2#2 ⟨true, false, true⟩ ⟨true, true, false⟩ ∧
    decode 0b1111111101010001#16 = .c111101a1 3#2 ⟨false, true, false⟩ ⟨false, false, true⟩ ∧
    decode 0b1111111110111100#16 = .c111110a1 3#2 ⟨true, true, true⟩ ⟨true, false, false⟩ ∧
    decode 0b1001111111100111#16 = .c111111a1 0#2 ⟨true, false, false⟩ ⟨true, true, true⟩ := by decide

/-- DFunctions, a = 0. -/
theorem test_decode_d_functions_a0 :
    decode 0b1010001010001010#16 = .c001010a0 1#2 ⟨false, false, true⟩ ⟨false, true, false⟩ ∧
    decode 0b1100001011110101#16 = .c001011a0 2#2 ⟨true, true, false⟩ ⟨true, false, true⟩ ∧
    decode 0b1110001100011000#16 = .c001100a0 3#2 ⟨false, true, true⟩ ⟨false, false, false⟩ ∧
    decode 0b1110001101000011#16 = .c001101a0 3#2 ⟨false, false, false⟩ ⟨false, true, true⟩ ∧
    decode 0b1000001110101110#16 = .c001110a0 0#2 ⟨true, false, true⟩ ⟨true, true, false⟩ ∧
    decode 0b1010001111010001#16 = .c001111a0 1#2 ⟨false, true, false⟩ ⟨false, false, true⟩ ∧
    decode 0b1100011010111100#16 = .c011010a0 2#2 ⟨true, true, true⟩ ⟨true, false, false⟩ ∧
    decode 0b1110011011100111#16 = .c011011a0 3#2 ⟨true, false, false⟩ ⟨true, true, true⟩ ∧
    decode 0b1110011100001010#16 = .c011100a0 3#2 ⟨false, false, true⟩ ⟨false, true, false⟩ ∧
    decode 0b1000011101110101#16 = .c011101a0 0#2 ⟨true, true, false⟩ ⟨true, false, true⟩ ∧
    decode 0b1010011110011000#16 = .c011110a0 1#2 ⟨false, true, true⟩ ⟨false, false, false⟩ ∧
    decode 0b1100011111000011#16 = .c011111a0 2#2 ⟨false, false, false⟩ ⟨false, true, true⟩ := by decide

/-- DFunctions, a = 1. -/
theorem test_decode_d_functions_a1 :
    decode 0b1111001010101110#16 = .c001010a1 3#2 ⟨true, false, true⟩ ⟨true, true, false⟩ ∧
    decode 0b1111001011010001#16 = .c001011a1 3#2 ⟨false, true, false⟩ ⟨false, false, true⟩ ∧
    decode 0b1001001100111100#16 = .c001100a1 0#2 ⟨true, true, true⟩ ⟨true, false, false⟩ ∧
    decode 0b1011001101100111#16 = .c001101a1 1#2 ⟨true, false, false⟩ ⟨true, true, true⟩ ∧
    decode 0b1101001110001010#16 = .c001110a1 2#2 ⟨false, false, true⟩ ⟨false, true, false⟩ ∧
    decode 0b1111001111110101#16 = .c001111a1 3#2 ⟨true, true, false⟩ ⟨true, false, true⟩ ∧
    decode 0b1111011010011000#16 = .c011010a1 3#2 ⟨false, true, true⟩ ⟨false, false, false⟩ ∧
    decode 0b1001011011000011#16 = .c011011a1 0#2 ⟨false, false, false⟩ ⟨false, true, true⟩ ∧
    decode 0b1011011100101110#16 = .c011100a1 1#2 ⟨true, false, true⟩ ⟨true, true, false⟩ ∧
    decode 0b1101011101010001#16 = .c011101a1 2#2 ⟨false, true, false⟩ ⟨false, false, true⟩ ∧
    decode 0b1111011110111100#16 = .c011110a1 3#2 ⟨true, true, true⟩ ⟨true, false, false⟩ ∧
    decode 0b1111011111100111#16 = .c011111a1 3#2 ⟨true, false, false⟩ ⟨true, true, true⟩ := by decide

/-- YFunctions, a = 0. -/
theorem test_decode_y_functions_a0 :
    decode 0b1000100010001010#16 = .c100010a0 0#2 ⟨false, false, true⟩ ⟨false, true, false⟩ ∧
    decode 0b1010100011110101#16 = .c100011a0 1#2 ⟨true, true, false⟩ ⟨true, false, true⟩ ∧
    decode 0b1100100110011000#16 = .c100110a0 2#2 ⟨false, true, true⟩ ⟨false, false, false⟩ ∧
    decode 0b1110100111000011#16 = .c100111a0 3#2 ⟨false, false, false⟩ ⟨false, true, true⟩ ∧
    decode 0b1110110000101110#16 = .c110000a0 3#2 ⟨true, false, true⟩ ⟨true, true, false⟩ ∧
    decode 0b1000110001010001#16 = .c110001a0 0#2 ⟨false, true, false⟩ ⟨false, false, true⟩ ∧
    decode 0b1010110010111100#16 = .c110010a0 1#2 ⟨true, true, true⟩ ⟨true, false, false⟩ ∧
    decode 0b1100110011100111#16 = .c110011a0 2#2 ⟨true, false, false⟩ ⟨true, true, true⟩ ∧
    decode 0b1110110100001010#16 = .c110100a0 3#2 ⟨false, false, true⟩ ⟨false, true, false⟩ ∧
    decode 0b1110110101110101#16 = .c110101a0 3#2 ⟨true, true, false⟩ ⟨true, false, true⟩ ∧
    decode 0b1000110110011000#16 = .c110110a0 0#2 ⟨false, true, true⟩ ⟨false, false, false⟩ ∧
    decode 0b1010110111000011#16 = .c110111a0 1#2 ⟨false, false, false⟩ ⟨false, true, true⟩ := by decide

/-- YFunctions, a = 1. -/
theorem test_decode_y_functions_a1 :
    decode 0b1101100010101110#16 = .c100010a1 2#2 ⟨true, false, true⟩ ⟨true, true, false⟩ ∧
    decode 0b1111100011010001#16 = .c100011a1 3#2 ⟨false, true, false⟩ ⟨false, false, true⟩ ∧
    decode 0b1111100110111100#16 = .c100110a1 3#2 ⟨true, true, true⟩ ⟨true, false, false⟩ ∧
    decode 0b1001100111100111#16 = .c100111a1 0#2 ⟨true, false, false⟩ ⟨true, true, true⟩ ∧
    decode 0b1011110000001010#16 = .c110000a1 1#2 ⟨false, false, true⟩ ⟨false, true, false⟩ ∧
    decode 0b1101110001110101#16 = .c110001a1 2#2 ⟨true, true, false⟩ ⟨true, false, true⟩ ∧
    decode 0b1111110010011000#16 = .c110010a1 3#2 ⟨false, true, true⟩ ⟨false, false, false⟩ ∧
    decode 0b1111110011000011#16 = .c110011a1 3#2 ⟨false, false, false⟩ ⟨false, true, true⟩ ∧
    decode 0b1001110100101110#16 = .c110100a1 0#2 ⟨true, false, true⟩ ⟨true, true, false⟩ ∧
    decode 0b1011110101010001#16 = .c110101a1 1#2 ⟨false, true, false⟩ ⟨false, false, true⟩ ∧
    decode 0b1101110110111100#16 = .c110110a1 2#2 ⟨true, true, true⟩ ⟨true, false, false⟩ ∧
    decode 0b1111110111100111#16 = .c110111a1 3#2 ⟨true, false, false⟩ ⟨true, true, true⟩ := by decide

/-- Logic, a = 0. -/
theorem test_decode_logic_a0 :
    decode 0b1110000000001010#16 = .c000000a0 3#2 ⟨false, false, true⟩ ⟨false, true, false⟩ ∧
    decode 0b1000000001110101#16 = .c000001a0 0#2 ⟨true, true, false⟩ ⟨true, false, true⟩ ∧
    decode 0b1010000100011000#16 = .c000100a0 1#2 ⟨false, true, true⟩ ⟨false, false, false⟩ ∧
    decode 0b1100000101000011#16 = .c000101a0 2#2 ⟨false, false, false⟩ ⟨false, true, true⟩ ∧
    decode 0b1110010000101110#16 = .c010000a0 3#2 ⟨true, false, true⟩ ⟨true, true, false⟩ ∧
    decode 0b1110010001010001#16 = .c010001a0 3#2 ⟨false, true, false⟩ ⟨false, false, true⟩ ∧
    decode 0b1000010100111100#16 = .c010100a0 0#2 ⟨true, true, true⟩ ⟨true, false, false⟩ ∧
    decode 0b1010010101100111#16 = .c010101a0 1#2 ⟨true, false, false⟩ ⟨true, true, true⟩ := by decide

/-- Logic, a = 1. -/
theorem test_decode_logic_a1 :
    decode 0b1101000000001010#16 = .c000000a1 2#2 ⟨false, false, true⟩ ⟨false, true, false⟩ ∧
    decode 0b1111000001110101#16 = .c000001a1 3#2 ⟨true, true, false⟩ ⟨true, false, true⟩ ∧
    decode 0b1111000100011000#16 = .c000100a1 3#2 ⟨false, true, true⟩ ⟨false, false, false⟩ ∧
    decode 0b1001000101000011#16 = .c000101a1 0#2 ⟨false, false, false⟩ ⟨false, true, true⟩ ∧
    decode 0b1011010000101110#16 = .c010000a1 1#2 ⟨true, false, true⟩ ⟨true, true, false⟩ ∧
    decode 0b1101010001010001#16 = .c010001a1 2#2 ⟨false, true, false⟩ ⟨false, false, true⟩ ∧
    decode 0b1111010100111100#16 = .c010100a1 3#2 ⟨true, true, true⟩ ⟨true, false, false⟩ ∧
    decode 0b1111010101100111#16 = .c010101a1 3#2 ⟨true, false, false⟩ ⟨true, true, true⟩ := by decide

/-- Arithmetic, a = 0. -/
theorem test_decode_arithmetic_a0 :
    decode 0b1000000010001010#16 = .c000010a0 0#2 ⟨false, false, true⟩ ⟨false, true, false⟩ ∧
    decode 0b1010000011110101#16 = .c000011a0 1#2 ⟨true, true, false⟩ ⟨true, false, true⟩ ∧
    decode 0b1100000110011000#16 = .c000110a0 2#2 ⟨false, true, true⟩ ⟨false, false, false⟩ ∧
    decode 0b1110000111000011#16 = .c000111a0 3#2 ⟨false, false, false⟩ ⟨false, true, true⟩ ∧
    decode 0b1110010010101110#16 = .c010010a0 3#2 ⟨true, false, true⟩ ⟨true, true, false⟩ ∧
    decode 0b1000010011010001#16 = .c010011a0 0#2 ⟨false, true, false⟩ ⟨false, false, true⟩ ∧
    decode 0b1010010110111100#16 = .c010110a0 1#2 ⟨true, true, true⟩ ⟨true, false, false⟩ ∧
    decode 0b1100010111100111#16 = .c010111a0 2#2 ⟨true, false, false⟩ ⟨true, true, true⟩ := by decide

/-- Arithmetic, a = 1. -/
theorem test_decode_arithmetic_a1 :
    decode 0b1111000010001010#16 = .c000010a1 3#2 ⟨false, false, true⟩ ⟨false, true, false⟩ ∧
    decode 0b1111000011110101#16 = .c000011a1 3#2 ⟨true, true, false⟩ ⟨true, false, true⟩ ∧
    decode 0b1001000110011000#16 = .c000110a1 0#2 ⟨false, true, true⟩ ⟨false, false, false⟩ ∧
    decode 0b1011000111000011#16 = .c000111a1 1#2 ⟨false, false, false⟩ ⟨false, true, true⟩ ∧
    decode 0b1101010010101110#16 = .c010010a1 2#2 ⟨true, false, true⟩ ⟨true, true, false⟩ ∧
    decode 0b1111010011010001#16 = .c010011a1 3#2 ⟨false, true, false⟩ ⟨false, false, true⟩ ∧
    decode 0b1111010110111100#16 = .c010110a1 3#2 ⟨true, true, true⟩ ⟨true, false, false⟩ ∧
    decode 0b1001010111100111#16 = .c010111a1 0#2 ⟨true, false, false⟩ ⟨true, true, true⟩ := by decide

/-! ### Results: the table of 95_test_vectors.md 2.2, run through `exec` -/

/-- ALU.out, zr and ng after one instruction with D = x, A = y0 and RAM.out = y1. -/
def resultOf (x y0 y1 w : Word) : Word × Bool × Bool :=
  match exec (decode w) { State.reset with a := ⟨y0, 0#16⟩, d := ⟨x, 0#16⟩, ram := ⟨[], y1⟩ } with
  | .next t => (t.alu.out, t.alu.zr, t.alu.ng)
  | _ => (0#16, false, false)

/-- Constants, y = A: the columns x = 0x0011, y = 0x0002 and x = 0x8000, y = 0xFFFF. -/
theorem test_results_constants_a0 :
    List.map (resultOf 0x0011#16 0x0002#16 0x5A5A#16)
      [0xE200#16, 0xE240#16, 0xE600#16, 0xE640#16, 0xE800#16, 0xE840#16, 0xE900#16, 0xE940#16, 0xEA00#16, 0xEA40#16,
       0xEA80#16, 0xEAC0#16, 0xEB00#16, 0xEB40#16, 0xEB80#16, 0xEBC0#16, 0xEE00#16, 0xEE40#16, 0xEE80#16, 0xEEC0#16,
       0xEF00#16, 0xEF40#16, 0xEF80#16, 0xEFC0#16] =
      [(0x0000#16, true, false), (0xFFFF#16, false, true), (0x0000#16, true, false), (0xFFFF#16, false, true),
       (0x0000#16, true, false), (0xFFFF#16, false, true), (0x0000#16, true, false), (0xFFFF#16, false, true),
       (0x0000#16, true, false), (0xFFFF#16, false, true), (0x0000#16, true, false), (0xFFFF#16, false, true),
       (0x0000#16, true, false), (0xFFFF#16, false, true), (0xFFFF#16, false, true), (0x0000#16, true, false),
       (0x0000#16, true, false), (0xFFFF#16, false, true), (0xFFFF#16, false, true), (0x0000#16, true, false),
       (0xFFFF#16, false, true), (0x0000#16, true, false), (0xFFFE#16, false, true), (0x0001#16, false, false)] ∧
    List.map (resultOf 0x8000#16 0xFFFF#16 0x5A5A#16)
      [0xE200#16, 0xE240#16, 0xE600#16, 0xE640#16, 0xE800#16, 0xE840#16, 0xE900#16, 0xE940#16, 0xEA00#16, 0xEA40#16,
       0xEA80#16, 0xEAC0#16, 0xEB00#16, 0xEB40#16, 0xEB80#16, 0xEBC0#16, 0xEE00#16, 0xEE40#16, 0xEE80#16, 0xEEC0#16,
       0xEF00#16, 0xEF40#16, 0xEF80#16, 0xEFC0#16] =
      [(0x0000#16, true, false), (0xFFFF#16, false, true), (0x0000#16, true, false), (0xFFFF#16, false, true),
       (0x0000#16, true, false), (0xFFFF#16, false, true), (0x0000#16, true, false), (0xFFFF#16, false, true),
       (0x0000#16, true, false), (0xFFFF#16, false, true), (0x0000#16, true, false), (0xFFFF#16, false, true),
       (0x0000#16, true, false), (0xFFFF#16, false, true), (0xFFFF#16, false, true), (0x0000#16, true, false),
       (0x0000#16, true, false), (0xFFFF#16, false, true), (0xFFFF#16, false, true), (0x0000#16, true, false),
       (0xFFFF#16, false, true), (0x0000#16, true, false), (0xFFFE#16, false, true), (0x0001#16, false, false)] := by decide

/-- Constants, y = inM: the columns x = 0x0011, y = 0x0002 and x = 0x8000, y = 0xFFFF. -/
theorem test_results_constants_a1 :
    List.map (resultOf 0x0011#16 0x5A5A#16 0x0002#16)
      [0xF200#16, 0xF240#16, 0xF600#16, 0xF640#16, 0xF800#16, 0xF840#16, 0xF900#16, 0xF940#16, 0xFA00#16, 0xFA40#16,
       0xFA80#16, 0xFAC0#16, 0xFB00#16, 0xFB40#16, 0xFB80#16, 0xFBC0#16, 0xFE00#16, 0xFE40#16, 0xFE80#16, 0xFEC0#16,
       0xFF00#16, 0xFF40#16, 0xFF80#16, 0xFFC0#16] =
      [(0x0000#16, true, false), (0xFFFF#16, false, true), (0x0000#16, true, false), (0xFFFF#16, false, true),
       (0x0000#16, true, false), (0xFFFF#16, false, true), (0x0000#16, true, false), (0xFFFF#16, false, true),
       (0x0000#16, true, false), (0xFFFF#16, false, true), (0x0000#16, true, false), (0xFFFF#16, false, true),
       (0x0000#16, true, false), (0xFFFF#16, false, true), (0xFFFF#16, false, true), (0x0000#16, true, false),
       (0x0000#16, true, false), (0xFFFF#16, false, true), (0xFFFF#16, false, true), (0x0000#16, true, false),
       (0xFFFF#16, false, true), (0x0000#16, true, false), (0xFFFE#16, false, true), (0x0001#16, false, false)] ∧
    List.map (resultOf 0x8000#16 0x5A5A#16 0xFFFF#16)
      [0xF200#16, 0xF240#16, 0xF600#16, 0xF640#16, 0xF800#16, 0xF840#16, 0xF900#16, 0xF940#16, 0xFA00#16, 0xFA40#16,
       0xFA80#16, 0xFAC0#16, 0xFB00#16, 0xFB40#16, 0xFB80#16, 0xFBC0#16, 0xFE00#16, 0xFE40#16, 0xFE80#16, 0xFEC0#16,
       0xFF00#16, 0xFF40#16, 0xFF80#16, 0xFFC0#16] =
      [(0x0000#16, true, false), (0xFFFF#16, false, true), (0x0000#16, true, false), (0xFFFF#16, false, true),
       (0x0000#16, true, false), (0xFFFF#16, false, true), (0x0000#16, true, false), (0xFFFF#16, false, true),
       (0x0000#16, true, false), (0xFFFF#16, false, true), (0x0000#16, true, false), (0xFFFF#16, false, true),
       (0x0000#16, true, false), (0xFFFF#16, false, true), (0xFFFF#16, false, true), (0x0000#16, true, false),
       (0x0000#16, true, false), (0xFFFF#16, false, true), (0xFFFF#16, false, true), (0x0000#16, true, false),
       (0xFFFF#16, false, true), (0x0000#16, true, false), (0xFFFE#16, false, true), (0x0001#16, false, false)] := by decide

/-- DFunctions, y = A: the columns x = 0x0011, y = 0x0002 and x = 0x8000, y = 0xFFFF. -/
theorem test_results_d_functions_a0 :
    List.map (resultOf 0x0011#16 0x0002#16 0x5A5A#16)
      [0xE280#16, 0xE2C0#16, 0xE300#16, 0xE340#16, 0xE380#16, 0xE3C0#16, 0xE680#16, 0xE6C0#16, 0xE700#16, 0xE740#16,
       0xE780#16, 0xE7C0#16] =
      [(0x0011#16, false, false), (0xFFEE#16, false, true), (0x0011#16, false, false), (0xFFEE#16, false, true),
       (0x0010#16, false, false), (0xFFEF#16, false, true), (0xFFEE#16, false, true), (0x0011#16, false, false),
       (0xFFEE#16, false, true), (0x0011#16, false, false), (0xFFED#16, false, true), (0x0012#16, false, false)] ∧
    List.map (resultOf 0x8000#16 0xFFFF#16 0x5A5A#16)
      [0xE280#16, 0xE2C0#16, 0xE300#16, 0xE340#16, 0xE380#16, 0xE3C0#16, 0xE680#16, 0xE6C0#16, 0xE700#16, 0xE740#16,
       0xE780#16, 0xE7C0#16] =
      [(0x8000#16, false, true), (0x7FFF#16, false, false), (0x8000#16, false, true), (0x7FFF#16, false, false),
       (0x7FFF#16, false, false), (0x8000#16, false, true), (0x7FFF#16, false, false), (0x8000#16, false, true),
       (0x7FFF#16, false, false), (0x8000#16, false, true), (0x7FFE#16, false, false), (0x8001#16, false, true)] := by decide

/-- DFunctions, y = inM: the columns x = 0x0011, y = 0x0002 and x = 0x8000, y = 0xFFFF. -/
theorem test_results_d_functions_a1 :
    List.map (resultOf 0x0011#16 0x5A5A#16 0x0002#16)
      [0xF280#16, 0xF2C0#16, 0xF300#16, 0xF340#16, 0xF380#16, 0xF3C0#16, 0xF680#16, 0xF6C0#16, 0xF700#16, 0xF740#16,
       0xF780#16, 0xF7C0#16] =
      [(0x0011#16, false, false), (0xFFEE#16, false, true), (0x0011#16, false, false), (0xFFEE#16, false, true),
       (0x0010#16, false, false), (0xFFEF#16, false, true), (0xFFEE#16, false, true), (0x0011#16, false, false),
       (0xFFEE#16, false, true), (0x0011#16, false, false), (0xFFED#16, false, true), (0x0012#16, false, false)] ∧
    List.map (resultOf 0x8000#16 0x5A5A#16 0xFFFF#16)
      [0xF280#16, 0xF2C0#16, 0xF300#16, 0xF340#16, 0xF380#16, 0xF3C0#16, 0xF680#16, 0xF6C0#16, 0xF700#16, 0xF740#16,
       0xF780#16, 0xF7C0#16] =
      [(0x8000#16, false, true), (0x7FFF#16, false, false), (0x8000#16, false, true), (0x7FFF#16, false, false),
       (0x7FFF#16, false, false), (0x8000#16, false, true), (0x7FFF#16, false, false), (0x8000#16, false, true),
       (0x7FFF#16, false, false), (0x8000#16, false, true), (0x7FFE#16, false, false), (0x8001#16, false, true)] := by decide

/-- YFunctions, y = A: the columns x = 0x0011, y = 0x0002 and x = 0x8000, y = 0xFFFF. -/
theorem test_results_y_functions_a0 :
    List.map (resultOf 0x0011#16 0x0002#16 0x5A5A#16)
      [0xE880#16, 0xE8C0#16, 0xE980#16, 0xE9C0#16, 0xEC00#16, 0xEC40#16, 0xEC80#16, 0xECC0#16, 0xED00#16, 0xED40#16,
       0xED80#16, 0xEDC0#16] =
      [(0x0002#16, false, false), (0xFFFD#16, false, true), (0xFFFD#16, false, true), (0x0002#16, false, false),
       (0x0002#16, false, false), (0xFFFD#16, false, true), (0x0001#16, false, false), (0xFFFE#16, false, true),
       (0xFFFD#16, false, true), (0x0002#16, false, false), (0xFFFC#16, false, true), (0x0003#16, false, false)] ∧
    List.map (resultOf 0x8000#16 0xFFFF#16 0x5A5A#16)
      [0xE880#16, 0xE8C0#16, 0xE980#16, 0xE9C0#16, 0xEC00#16, 0xEC40#16, 0xEC80#16, 0xECC0#16, 0xED00#16, 0xED40#16,
       0xED80#16, 0xEDC0#16] =
      [(0xFFFF#16, false, true), (0x0000#16, true, false), (0x0000#16, true, false), (0xFFFF#16, false, true),
       (0xFFFF#16, false, true), (0x0000#16, true, false), (0xFFFE#16, false, true), (0x0001#16, false, false),
       (0x0000#16, true, false), (0xFFFF#16, false, true), (0xFFFF#16, false, true), (0x0000#16, true, false)] := by decide

/-- YFunctions, y = inM: the columns x = 0x0011, y = 0x0002 and x = 0x8000, y = 0xFFFF. -/
theorem test_results_y_functions_a1 :
    List.map (resultOf 0x0011#16 0x5A5A#16 0x0002#16)
      [0xF880#16, 0xF8C0#16, 0xF980#16, 0xF9C0#16, 0xFC00#16, 0xFC40#16, 0xFC80#16, 0xFCC0#16, 0xFD00#16, 0xFD40#16,
       0xFD80#16, 0xFDC0#16] =
      [(0x0002#16, false, false), (0xFFFD#16, false, true), (0xFFFD#16, false, true), (0x0002#16, false, false),
       (0x0002#16, false, false), (0xFFFD#16, false, true), (0x0001#16, false, false), (0xFFFE#16, false, true),
       (0xFFFD#16, false, true), (0x0002#16, false, false), (0xFFFC#16, false, true), (0x0003#16, false, false)] ∧
    List.map (resultOf 0x8000#16 0x5A5A#16 0xFFFF#16)
      [0xF880#16, 0xF8C0#16, 0xF980#16, 0xF9C0#16, 0xFC00#16, 0xFC40#16, 0xFC80#16, 0xFCC0#16, 0xFD00#16, 0xFD40#16,
       0xFD80#16, 0xFDC0#16] =
      [(0xFFFF#16, false, true), (0x0000#16, true, false), (0x0000#16, true, false), (0xFFFF#16, false, true),
       (0xFFFF#16, false, true), (0x0000#16, true, false), (0xFFFE#16, false, true), (0x0001#16, false, false),
       (0x0000#16, true, false), (0xFFFF#16, false, true), (0xFFFF#16, false, true), (0x0000#16, true, false)] := by decide

/-- Logic, y = A: the columns x = 0x0011, y = 0x0002 and x = 0x8000, y = 0xFFFF. -/
theorem test_results_logic_a0 :
    List.map (resultOf 0x0011#16 0x0002#16 0x5A5A#16)
      [0xE000#16, 0xE040#16, 0xE100#16, 0xE140#16, 0xE400#16, 0xE440#16, 0xE500#16, 0xE540#16] =
      [(0x0000#16, true, false), (0xFFFF#16, false, true), (0x0011#16, false, false), (0xFFEE#16, false, true),
       (0x0002#16, false, false), (0xFFFD#16, false, true), (0xFFEC#16, false, true), (0x0013#16, false, false)] ∧
    List.map (resultOf 0x8000#16 0xFFFF#16 0x5A5A#16)
      [0xE000#16, 0xE040#16, 0xE100#16, 0xE140#16, 0xE400#16, 0xE440#16, 0xE500#16, 0xE540#16] =
      [(0x8000#16, false, true), (0x7FFF#16, false, false), (0x0000#16, true, false), (0xFFFF#16, false, true),
       (0x7FFF#16, false, false), (0x8000#16, false, true), (0x0000#16, true, false), (0xFFFF#16, false, true)] := by decide

/-- Logic, y = inM: the columns x = 0x0011, y = 0x0002 and x = 0x8000, y = 0xFFFF. -/
theorem test_results_logic_a1 :
    List.map (resultOf 0x0011#16 0x5A5A#16 0x0002#16)
      [0xF000#16, 0xF040#16, 0xF100#16, 0xF140#16, 0xF400#16, 0xF440#16, 0xF500#16, 0xF540#16] =
      [(0x0000#16, true, false), (0xFFFF#16, false, true), (0x0011#16, false, false), (0xFFEE#16, false, true),
       (0x0002#16, false, false), (0xFFFD#16, false, true), (0xFFEC#16, false, true), (0x0013#16, false, false)] ∧
    List.map (resultOf 0x8000#16 0x5A5A#16 0xFFFF#16)
      [0xF000#16, 0xF040#16, 0xF100#16, 0xF140#16, 0xF400#16, 0xF440#16, 0xF500#16, 0xF540#16] =
      [(0x8000#16, false, true), (0x7FFF#16, false, false), (0x0000#16, true, false), (0xFFFF#16, false, true),
       (0x7FFF#16, false, false), (0x8000#16, false, true), (0x0000#16, true, false), (0xFFFF#16, false, true)] := by decide

/-- Arithmetic, y = A: the columns x = 0x0011, y = 0x0002 and x = 0x8000, y = 0xFFFF. -/
theorem test_results_arithmetic_a0 :
    List.map (resultOf 0x0011#16 0x0002#16 0x5A5A#16)
      [0xE080#16, 0xE0C0#16, 0xE180#16, 0xE1C0#16, 0xE480#16, 0xE4C0#16, 0xE580#16, 0xE5C0#16] =
      [(0x0013#16, false, false), (0xFFEC#16, false, true), (0x000E#16, false, false), (0xFFF1#16, false, true),
       (0xFFF0#16, false, true), (0x000F#16, false, false), (0xFFEB#16, false, true), (0x0014#16, false, false)] ∧
    List.map (resultOf 0x8000#16 0xFFFF#16 0x5A5A#16)
      [0xE080#16, 0xE0C0#16, 0xE180#16, 0xE1C0#16, 0xE480#16, 0xE4C0#16, 0xE580#16, 0xE5C0#16] =
      [(0x7FFF#16, false, false), (0x8000#16, false, true), (0x8000#16, false, true), (0x7FFF#16, false, false),
       (0x7FFE#16, false, false), (0x8001#16, false, true), (0x7FFF#16, false, false), (0x8000#16, false, true)] := by decide

/-- Arithmetic, y = inM: the columns x = 0x0011, y = 0x0002 and x = 0x8000, y = 0xFFFF. -/
theorem test_results_arithmetic_a1 :
    List.map (resultOf 0x0011#16 0x5A5A#16 0x0002#16)
      [0xF080#16, 0xF0C0#16, 0xF180#16, 0xF1C0#16, 0xF480#16, 0xF4C0#16, 0xF580#16, 0xF5C0#16] =
      [(0x0013#16, false, false), (0xFFEC#16, false, true), (0x000E#16, false, false), (0xFFF1#16, false, true),
       (0xFFF0#16, false, true), (0x000F#16, false, false), (0xFFEB#16, false, true), (0x0014#16, false, false)] ∧
    List.map (resultOf 0x8000#16 0x5A5A#16 0xFFFF#16)
      [0xF080#16, 0xF0C0#16, 0xF180#16, 0xF1C0#16, 0xF480#16, 0xF4C0#16, 0xF580#16, 0xF5C0#16] =
      [(0x7FFF#16, false, false), (0x8000#16, false, true), (0x8000#16, false, true), (0x7FFF#16, false, false),
       (0x7FFE#16, false, false), (0x8001#16, false, true), (0x7FFF#16, false, false), (0x8000#16, false, true)] := by decide

/-! ### One instruction from the state S0 (95_test_vectors.md 2.5 and 2.6) -/

/-- A.reg, D.reg, ALU.out, the data at 0x0011, RAM.out and PC.reg after one instruction from S0. -/
def fromS0 (w : Word) : List Word :=
  match exec (decode w) s0 with
  | .next t => [t.a.reg, t.d.reg, t.alu.out, memRead t.ram.mem 0x0011#16, t.ram.out, t.pc.reg]
  | _ => []

/-- The rows of 2.5: `@v` writes A and D, runs the ALU, and stores when bit [3] is 1. -/
theorem test_aInstruction_from_s0 :
    fromS0 0x0000#16 = [0x0000#16, 0x0007#16, 0x0000#16, 0x0042#16, 0x0042#16, 0x0001#16] ∧
    fromS0 0x0005#16 = [0x0005#16, 0x0007#16, 0x0000#16, 0x0042#16, 0x0042#16, 0x0001#16] ∧
    fromS0 0x0008#16 = [0x0008#16, 0x0007#16, 0x0000#16, 0x0000#16, 0x0000#16, 0x0001#16] ∧
    fromS0 0x0011#16 = [0x0011#16, 0x0007#16, 0x0000#16, 0x0042#16, 0x0042#16, 0x0001#16] ∧
    fromS0 0x0FC0#16 = [0x0FC0#16, 0x0007#16, 0x0001#16, 0x0042#16, 0x0042#16, 0x0001#16] ∧
    fromS0 0x1FC8#16 = [0x1FC8#16, 0x0007#16, 0x0001#16, 0x0001#16, 0x0001#16, 0x0001#16] ∧
    fromS0 0x0E80#16 = [0x0E80#16, 0x0007#16, 0xFFFF#16, 0x0042#16, 0x0042#16, 0x0001#16] ∧
    fromS0 0x1000#16 = [0x1000#16, 0x0007#16, 0x0002#16, 0x0042#16, 0x0042#16, 0x0001#16] ∧
    fromS0 0x7FFF#16 = [0x7FFF#16, 0x0007#16, 0x0001#16, 0x0001#16, 0x0001#16, 0x0001#16] ∧
    fromS0 0x7FF8#16 = [0x7FF8#16, 0x0007#16, 0x0001#16, 0x0001#16, 0x0001#16, 0x0001#16] ∧
    fromS0 0x1C87#16 = [0x1C87#16, 0x0007#16, 0x0041#16, 0x0042#16, 0x0042#16, 0x0001#16] := by decide

/-- The rows of 2.6. -/
theorem test_cInstruction_from_s0 :
    fromS0 0xEA80#16 = [0x0011#16, 0x0002#16, 0x0000#16, 0x0042#16, 0x0042#16, 0x0001#16] ∧
    fromS0 0xEFC0#16 = [0x0011#16, 0x0002#16, 0x0001#16, 0x0042#16, 0x0042#16, 0x0001#16] ∧
    fromS0 0xEE80#16 = [0x0011#16, 0x0002#16, 0xFFFF#16, 0x0042#16, 0x0042#16, 0x0001#16] ∧
    fromS0 0xE310#16 = [0x0011#16, 0x0007#16, 0x0002#16, 0x0042#16, 0x0042#16, 0x0001#16] ∧
    fromS0 0xEC10#16 = [0x0011#16, 0x0007#16, 0x0011#16, 0x0042#16, 0x0042#16, 0x0001#16] ∧
    fromS0 0xFC10#16 = [0x0011#16, 0x0007#16, 0x0042#16, 0x0042#16, 0x0042#16, 0x0001#16] ∧
    fromS0 0xE348#16 = [0x0011#16, 0x0002#16, 0xFFFD#16, 0xFFFD#16, 0xFFFD#16, 0x0001#16] ∧
    fromS0 0xECC8#16 = [0x0011#16, 0x0002#16, 0xFFEF#16, 0xFFEF#16, 0xFFEF#16, 0x0001#16] ∧
    fromS0 0xE7E0#16 = [0x0007#16, 0x0002#16, 0x0003#16, 0x0042#16, 0x0042#16, 0x0001#16] ∧
    fromS0 0xECA8#16 = [0x0007#16, 0x0002#16, 0x0010#16, 0x0010#16, 0x0010#16, 0x0001#16] ∧
    fromS0 0xF0B0#16 = [0x0007#16, 0x0007#16, 0x0044#16, 0x0042#16, 0x0042#16, 0x0001#16] ∧
    fromS0 0xF4C8#16 = [0x0011#16, 0x0002#16, 0xFFC0#16, 0xFFC0#16, 0xFFC0#16, 0x0001#16] ∧
    fromS0 0xF1C8#16 = [0x0011#16, 0x0002#16, 0x0040#16, 0x0040#16, 0x0040#16, 0x0001#16] ∧
    fromS0 0xF008#16 = [0x0011#16, 0x0002#16, 0x0002#16, 0x0002#16, 0x0002#16, 0x0001#16] ∧
    fromS0 0xE548#16 = [0x0011#16, 0x0002#16, 0x0013#16, 0x0013#16, 0x0013#16, 0x0001#16] ∧
    fromS0 0xE7FF#16 = [0x0007#16, 0x0007#16, 0x0003#16, 0x0003#16, 0x0003#16, 0x0011#16] ∧
    fromS0 0xA090#16 = [0x0011#16, 0x0007#16, 0x0013#16, 0x0042#16, 0x0042#16, 0x0001#16] ∧
    fromS0 0x8090#16 = [0x0011#16, 0x0007#16, 0x0013#16, 0x0042#16, 0x0042#16, 0x0001#16] ∧
    fromS0 0xC090#16 = [0x0011#16, 0x0007#16, 0x0013#16, 0x0042#16, 0x0042#16, 0x0001#16] := by decide

/-- PC.reg after one instruction with A.reg = 0x0020, PC.reg = 0x0003 and D = d. -/
def jumpWith (w d : Word) : Word :=
  match exec (decode w) { State.reset with a := ⟨0x0020#16, 0#16⟩, d := ⟨d, 0#16⟩, pc := ⟨0x0003#16, 0#16⟩ } with
  | .next t => t.pc.reg
  | _ => 0#16

/-- The eight jump codes (95_test_vectors.md 2.7), for D = 0xFFFE, 0x0000, 0x0005 and 0x8000. -/
theorem test_jumps :
    [0xFFFE#16, 0x0000#16, 0x0005#16, 0x8000#16].map (jumpWith 0xE300#16) = [0x0004#16, 0x0004#16, 0x0004#16, 0x0004#16] ∧
    [0xFFFE#16, 0x0000#16, 0x0005#16, 0x8000#16].map (jumpWith 0xE301#16) = [0x0004#16, 0x0020#16, 0x0020#16, 0x0004#16] ∧
    [0xFFFE#16, 0x0000#16, 0x0005#16, 0x8000#16].map (jumpWith 0xE302#16) = [0x0004#16, 0x0020#16, 0x0004#16, 0x0004#16] ∧
    [0xFFFE#16, 0x0000#16, 0x0005#16, 0x8000#16].map (jumpWith 0xE303#16) = [0x0004#16, 0x0020#16, 0x0020#16, 0x0004#16] ∧
    [0xFFFE#16, 0x0000#16, 0x0005#16, 0x8000#16].map (jumpWith 0xE304#16) = [0x0020#16, 0x0004#16, 0x0004#16, 0x0020#16] ∧
    [0xFFFE#16, 0x0000#16, 0x0005#16, 0x8000#16].map (jumpWith 0xE305#16) = [0x0020#16, 0x0020#16, 0x0020#16, 0x0020#16] ∧
    [0xFFFE#16, 0x0000#16, 0x0005#16, 0x8000#16].map (jumpWith 0xE306#16) = [0x0020#16, 0x0020#16, 0x0004#16, 0x0020#16] ∧
    [0xFFFE#16, 0x0000#16, 0x0005#16, 0x8000#16].map (jumpWith 0xE307#16) = [0x0020#16, 0x0020#16, 0x0020#16, 0x0020#16] := by decide

/-! ### The datapath, the storage elements and the stores (95_test_vectors.md 2.1, 2.3, 2.4) -/

theorem test_primitives : andW 0xFF00#16 0x0FF0#16 = 0x0F00#16 ∧ andW 0xAAAA#16 0x5555#16 = 0x0000#16 ∧
    notW 0x1234#16 = 0xEDCB#16 ∧ notW (notW 0x1234#16) = 0x1234#16 ∧ adder 0x1234#16 0x4321#16 = 0x5555#16 ∧
    adder 0x8000#16 0xFFFF#16 = 0x7FFF#16 ∧ rippleAdder 0x8000#16 0xFFFF#16 = 0x7FFF#16 ∧
    rippleAdder 0x1234#16 0x4321#16 = 0x5555#16 ∧ mux 0x1111#16 0x2222#16 false = 0x1111#16 ∧
    mux 0x1111#16 0x2222#16 true = 0x2222#16 := by decide

/-- The four calls of the Register table of 2.3, each from the state the call before it left. -/
theorem test_register : registerProcess ⟨0x0000#16, 0x0000#16⟩ true 0x1234#16 = ⟨0x1234#16, 0x0000#16⟩ ∧
    registerProcess ⟨0x1234#16, 0x0000#16⟩ false 0x5555#16 = ⟨0x1234#16, 0x1234#16⟩ ∧
    registerProcess ⟨0x1234#16, 0x1234#16⟩ true 0x5555#16 = ⟨0x5555#16, 0x1234#16⟩ ∧
    registerProcess ⟨0x5555#16, 0x1234#16⟩ false 0x0000#16 = ⟨0x5555#16, 0x5555#16⟩ := by decide

/-- The seven calls of the program-counter table of 2.3, and the wrap. -/
theorem test_programCounter : pcProcess ⟨0x0000#16, 0x0000#16⟩ false false 0x0000#16 = ⟨0x0001#16, 0x0000#16⟩ ∧
    pcProcess ⟨0x0001#16, 0x0000#16⟩ false false 0x0000#16 = ⟨0x0002#16, 0x0001#16⟩ ∧
    pcProcess ⟨0x0002#16, 0x0001#16⟩ false true 0x0020#16 = ⟨0x0020#16, 0x0002#16⟩ ∧
    pcProcess ⟨0x0020#16, 0x0002#16⟩ false false 0x0000#16 = ⟨0x0021#16, 0x0020#16⟩ ∧
    pcProcess ⟨0x0021#16, 0x0020#16⟩ true false 0x0000#16 = ⟨0x0001#16, 0x0000#16⟩ ∧
    pcProcess ⟨0x0001#16, 0x0000#16⟩ true true 0x0030#16 = ⟨0x0030#16, 0x0000#16⟩ ∧
    pcProcess ⟨0x0030#16, 0x0000#16⟩ false false 0x0000#16 = ⟨0x0031#16, 0x0030#16⟩ ∧
    pcProcess ⟨0xFFFF#16, 0x0000#16⟩ false false 0x0000#16 = ⟨0x0000#16, 0xFFFF#16⟩ := by decide

/-- The data-store operations of 2.4; writing ZERO takes the location off the list (log 6). -/
theorem test_dataStore : memRead [] 0x1234#16 = 0x0000#16 ∧
    DataStore.process ⟨[], 0#16⟩ 0x0005#16 0x1234#16 true = ⟨[(0x0005, 0x1234#16)], 0x1234#16⟩ ∧
    DataStore.process ⟨[(0x0005, 0x1234#16)], 0x1234#16⟩ 0x0005#16 0x9999#16 false = ⟨[(0x0005, 0x1234#16)], 0x1234#16⟩ ∧
    DataStore.process ⟨[(0x0005, 0x1234#16)], 0x1234#16⟩ 0x0006#16 0x9999#16 false = ⟨[(0x0005, 0x1234#16)], 0x0000#16⟩ ∧
    DataStore.process ⟨[(0x0005, 0x1234#16)], 0x0000#16⟩ 0xFFFF#16 0x8000#16 true =
      ⟨[(0x0005, 0x1234#16), (0xFFFF, 0x8000#16)], 0x8000#16⟩ ∧
    DataStore.process ⟨[(0x0005, 0x1234#16)], 0x0000#16⟩ 0x0005#16 0x0000#16 true = ⟨[], 0x0000#16⟩ := by decide

/-- The instruction store of the program [0xEA80] (2.4): present at 0, absent elsewhere; a stored ZERO is present (R44). -/
theorem test_instructionStore : romFetch (programImage 0 [0xEA80#16]) 0x0000#16 = some 0xEA80#16 ∧
    romFetch (programImage 0 [0xEA80#16]) 0x0001#16 = none ∧ romFetch (programImage 0 [0xEA80#16]) 0xFFFF#16 = none ∧
    romFetch (romSet [] 0x0003#16 0x0000#16) 0x0003#16 = some 0x0000#16 ∧
    romRead (programImage 0 [0xEA80#16]) 0x0000#16 = 0xEA80#16 ∧ romRead [] 0x0001#16 = 0x0000#16 := by decide

/-! ### Launch, fetch, halt and reset (95_test_vectors.md 2.4, 2.8 and the program RESET) -/

/-- The ALU latch of the runs of section 3 of the vectors: ALU_OUT_INIT = ZERO. -/
def zeroLatch : AluLatch := ⟨0x0000#16, true, false⟩

/-- The seeds [(3, 0x0010), (4, 0x0020), (3, 0x0030)] leave two locations and RAM.out = 0x0030. -/
theorem test_seeds : (launchState zeroLatch [] [(3#16, 0x0010#16), (4#16, 0x0020#16), (3#16, 0x0030#16)]).ram =
    ⟨[(3, 0x0030#16), (4, 0x0020#16)], 0x0030#16⟩ := by decide

/-- An empty program halts at once, in the launch state. -/
theorem test_emptyProgram : step (launchState zeroLatch [] []) = .next { launchState zeroLatch [] [] with halted := true } := rfl

/-- Cycle 1 of the program RESET: 0xEA80 at address 0. -/
theorem test_launch_cycle : ∃ t, step (launchState zeroLatch [0xEA80#16, 0x0007#16] []) = .next t ∧
    t.pc = ⟨0x0001#16, 0x0000#16⟩ ∧ t.alu = ⟨0x0000#16, true, false⟩ ∧ t.halted = false := ⟨_, rfl, by decide⟩

/-- Cycle 4 of the program RESET, with the reset input at 1: the PC restarts, A keeps 7. -/
theorem test_reset_cycle : ∃ t, exec (decode 0xEA80#16)
      { State.reset with a := ⟨0x0007#16, 0x0000#16⟩, pc := ⟨0x0003#16, 0x0002#16⟩, resetIn := true } = .next t ∧
    t.pc = ⟨0x0001#16, 0x0000#16⟩ ∧ t.a = ⟨0x0007#16, 0x0007#16⟩ := ⟨_, rfl, by decide⟩

/-- `0;JMP` (0xEA87) of the program LOOP: the state after it is the state before it. -/
theorem test_loop_cycle : step (launchState zeroLatch [0xEA87#16] []) = .next (launchState zeroLatch [0xEA87#16] []) := rfl

/-- A table word placed with `withFetchWord` runs as the first instruction after reset: `M=1` (0xEFC8) stores ONE at 0. -/
theorem test_withFetchWord : ∃ t, step (State.reset.withFetchWord 16 0xEFC8) = .next t ∧
    exec (decode 0xEFC8#16) (State.reset.withFetchWord 16 0xEFC8) = .next t ∧
    t.ram = ⟨[(0, 0x0001#16)], 0x0001#16⟩ := ⟨_, rfl, rfl, by decide⟩

/-- The host's bits stand most significant first (R13): 19 is 0x0013. -/
theorem test_hostWord : hostWord [0, 0, 0, 0, 0, 0, 0, 0, 0, 0, 0, 1, 0, 0, 1, 1] = some 0x0013#16 ∧
    hostWord [1, 0] = none ∧ hostWord [2, 0, 0, 0, 0, 0, 0, 0, 0, 0, 0, 0, 0, 0, 0, 0] = none := by decide

/-! ### Witnesses: states and operands that meet the hypotheses of the statements -/

/-- A running state at PC.out = 0 with PC.reg = 1, A = 2 and three instructions: `0;JMP`, `0;JMP` and 0xEA80. -/
def twoJumps : State :=
  { State.reset with a := ⟨2#16, 0#16⟩, pc := ⟨1#16, 0#16⟩, rom := [(0, 0xEA87#16), (1, 0xEA87#16), (2, 0xEA80#16)] }

/-- The state one step after `twoJumps`. -/
def twoJumpsNext : State := stateFunction 0xEA87#16 twoJumps

theorem witness_EncodeThenDecodeGivesTheInstruction :
    (Instr.atV 0x0000#16).wellFormed = true ∧ (Instr.atV 0x7FFF#16).wellFormed = true ∧
    (Instr.c101010a0 2#2 ⟨true, false, true⟩ ⟨false, true, true⟩).wellFormed = true := by decide

theorem witness_BitZeroSelectsTheFormat :
    BitVec.getMsbD 0x0000#16 0 = false ∧ BitVec.getMsbD 0x7FFF#16 0 = false ∧
    BitVec.getMsbD 0x8000#16 0 = true ∧ BitVec.getMsbD 0xFFFF#16 0 = true := by decide

theorem witness_EachWordMatchesOneOpcodeRow :
    0xFFFF#16 &&& (Instr.c111111a1 0#2 ⟨false, false, false⟩ ⟨false, false, false⟩).row.mask =
      (Instr.c111111a1 0#2 ⟨false, false, false⟩ ⟨false, false, false⟩).row.pattern ∧
    0x7FFF#16 &&& (Instr.atV 0#16).row.mask = (Instr.atV 0#16).row.pattern := by decide

theorem witness_UnusedBitsOfCInstructionsHaveNoEffect :
    BitVec.getMsbD 0x8090#16 0 = true ∧ BitVec.getMsbD 0xE090#16 0 = true ∧
    (∀ i < 16, i ≠ 1 → i ≠ 2 → BitVec.getMsbD 0x8090#16 i = BitVec.getMsbD 0xE090#16 i) ∧
    0x8090#16 ≠ 0xE090#16 ∧ BitVec.getMsbD 0x6000#16 0 = false := by decide

theorem witness_StepExecutesTheFetchedInstruction :
    twoJumps.halted = false ∧ (Instr.c101010a0 3#2 ⟨false, false, false⟩ ⟨true, true, true⟩).wellFormed = true ∧
    romFetch twoJumps.rom twoJumps.pc.out = some (encode (.c101010a0 3#2 ⟨false, false, false⟩ ⟨true, true, true⟩)) := by decide

theorem witness_HaltedBitIsSetByAnAbsentFetchOnly :
    (∃ t, step State.reset = .next t ∧ t.halted = true ∧ fetch State.reset = none) ∧
    (∃ t, step twoJumps = .next t ∧ t.halted = false) ∧
    ({ twoJumps with halted := true } : State).halted = true ∧
    After 2 { twoJumps with halted := true } { twoJumps with halted := true } := by
  refine ⟨⟨_, rfl, rfl, rfl⟩, ⟨_, rfl, rfl⟩, rfl, rfl⟩

theorem witness_AbsentFetchEndsTheRunAndChangesNothingElse :
    State.reset.halted = false ∧ romFetch State.reset.rom State.reset.pc.out = none ∧
    Ended { twoJumps with halted := true } := ⟨rfl, rfl, rfl⟩

theorem witness_AInstructionResult :
    BitVec.getMsbD 0x0000#16 0 = false ∧ BitVec.getMsbD 0x7FFF#16 0 = false := by decide

theorem witness_AInstructionWritesAAndDAndNeverJumps :
    BitVec.getMsbD 0x0007#16 0 = false ∧ State.reset.resetIn = false := by decide

theorem witness_AInstructionStoresByItsValueBitThree :
    BitVec.getMsbD 0x0008#16 0 = false ∧ 8 ≤ (0x0008#16 : Word).toNat % 16 ∧
    BitVec.getMsbD 0x7FFF#16 0 = false ∧ 8 ≤ (0x7FFF#16 : Word).toNat % 16 ∧
    BitVec.getMsbD 0x0007#16 0 = false ∧ (0x0007#16 : Word).toNat % 16 < 8 ∧
    BitVec.getMsbD 0x7FF0#16 0 = false ∧ (0x7FF0#16 : Word).toNat % 16 < 8 := by decide

/-- For every control code c: the Words of both rows with the free fields all 0 and all 1, and an A-instruction's value with the
code in it. It serves every statement made of `CodeComputes`. -/
theorem witness_CodeComputes : ∀ c : BitVec 6,
    (0x8000#16 ||| (c.setWidth 16 <<< 6)) &&& 0x9FC0#16 = 0x8000#16 ||| (c.setWidth 16 <<< 6) ∧
    (0xE03F#16 ||| (c.setWidth 16 <<< 6)) &&& 0x9FC0#16 = 0x8000#16 ||| (c.setWidth 16 <<< 6) ∧
    (0x9000#16 ||| (c.setWidth 16 <<< 6)) &&& 0x9FC0#16 = 0x9000#16 ||| (c.setWidth 16 <<< 6) ∧
    (0xF03F#16 ||| (c.setWidth 16 <<< 6)) &&& 0x9FC0#16 = 0x9000#16 ||| (c.setWidth 16 <<< 6) ∧
    BitVec.getMsbD (c.setWidth 16 <<< 6) 0 = false ∧ BitVec.extractLsb' 6 6 (c.setWidth 16 <<< 6) = c ∧
    BitVec.getMsbD (0x703F#16 ||| (c.setWidth 16 <<< 6)) 0 = false ∧
    BitVec.extractLsb' 6 6 (0x703F#16 ||| (c.setWidth 16 <<< 6)) = c := by decide

theorem witness_DestinationsReceivePreviousOrCurrentResult :
    BitVec.getMsbD 0xFDC0#16 0 = true ∧ BitVec.getMsbD 0xFDF8#16 0 = true ∧ BitVec.getMsbD 0xFDF8#16 10 = true ∧
    BitVec.getMsbD 0xFDF8#16 11 = true ∧ BitVec.getMsbD 0xFDF8#16 12 = true := by decide

theorem witness_StoreGoesToTheOldAAndIsReadNext :
    BitVec.getMsbD 0xFDE8#16 0 = true ∧ BitVec.getMsbD 0xFDE8#16 10 = true ∧ BitVec.getMsbD 0xFDE8#16 12 = true ∧
    BitVec.getMsbD 0xFC10#16 3 = true := by decide

theorem witness_FrameOfEveryInstruction :
    BitVec.getMsbD 0xE090#16 0 = true ∧ BitVec.getMsbD 0xE090#16 10 = false ∧ BitVec.getMsbD 0xE7E0#16 0 = true ∧
    BitVec.getMsbD 0xE7E0#16 11 = false ∧ BitVec.getMsbD 0xE7FF#16 12 = true ∧ BitVec.getMsbD 0x0008#16 12 = true ∧
    BitVec.getMsbD 0x0007#16 12 = false ∧ 0x0012#16 ≠ s0.a.reg := by decide

theorem witness_JumpDecisionReadsThisResult : BitVec.getMsbD 0x8000#16 0 = true ∧ BitVec.getMsbD 0xEA87#16 0 = true := by decide

/-- The eight jump codes, each in a C-instruction. -/
theorem witness_EightJumpCodesBySignedResult :
    [0xE300#16, 0xE301#16, 0xE302#16, 0xE303#16, 0xE304#16, 0xE305#16, 0xE306#16, 0xE307#16].map
      (fun w => (BitVec.getMsbD w 0, BitVec.extractLsb' 0 3 w)) =
    [(true, 0b000#3), (true, 0b001#3), (true, 0b010#3), (true, 0b011#3), (true, 0b100#3), (true, 0b101#3), (true, 0b110#3),
      (true, 0b111#3)] := by decide

/-- The slot and the target present, with a jump in the slot; then the target absent (A = 7); then the slot absent (PC.reg = 7). -/
theorem witness_TakenJumpHasOneDelaySlot :
    twoJumps.halted = false ∧ twoJumps.resetIn = false ∧
    romFetch twoJumps.rom twoJumps.pc.out = some 0xEA87#16 ∧ romFetch twoJumps.rom twoJumps.pc.reg = some 0xEA87#16 ∧
    takesJump 0xEA87#16 twoJumps ∧ step twoJumps = .next twoJumpsNext ∧ takesJump 0xEA87#16 twoJumpsNext ∧
    romFetch twoJumps.rom twoJumps.a.reg = some 0xEA80#16 ∧
    takesJump 0xEA87#16 { twoJumps with a := ⟨7#16, 0#16⟩ } ∧ romFetch twoJumps.rom 7#16 = none ∧
    takesJump 0xEA87#16 { twoJumps with pc := ⟨7#16, 0#16⟩ } := by
  refine ⟨rfl, rfl, rfl, rfl, ?_, rfl, ?_, rfl, ?_, rfl, ?_⟩ <;> unfold takesJump <;> decide

/-- A jump taken; none taken with the PC at its last value; a halted state; an absent fetch. -/
theorem witness_ProgramCounterAdvancesByOneOrJumps :
    twoJumps.halted = false ∧ romFetch twoJumps.rom twoJumps.pc.out = some 0xEA87#16 ∧ takesJump 0xEA87#16 twoJumps ∧
    romFetch [(0xFFFE, 0xEA80#16)] 0xFFFE#16 = some 0xEA80#16 ∧
    ¬ takesJump 0xEA80#16 { State.reset with pc := ⟨0xFFFF#16, 0xFFFE#16⟩, rom := [(0xFFFE, 0xEA80#16)] } ∧
    State.reset.resetIn = false ∧ ({ twoJumps with halted := true } : State).halted = true ∧
    romFetch State.reset.rom State.reset.pc.out = none := by
  unfold takesJump
  decide

theorem witness_RegisterExposesWhatAnEarlierCallLatched :
    (registerProcess ⟨0x0001#16, 0x0000#16⟩ true 0x0002#16).reg ≠ (registerProcess ⟨0x0001#16, 0x0000#16⟩ false 0x0002#16).reg := by
  decide

/-- The four combinations of reset and load, with four different results. -/
theorem witness_ProgramCounterResetThenLoadThenIncrement :
    List.Nodup [pcProcess ⟨0x0005#16, 0#16⟩ false false 0x0030#16, pcProcess ⟨0x0005#16, 0#16⟩ false true 0x0030#16,
      pcProcess ⟨0x0005#16, 0#16⟩ true false 0x0030#16, pcProcess ⟨0x0005#16, 0#16⟩ true true 0x0030#16] := by decide

theorem witness_ResetInputActsOnThePcOnly : takesJump 0xEA87#16 twoJumps ∧ ¬ takesJump 0xEA80#16 twoJumps ∧
    ¬ takesJump 0x0007#16 twoJumps := by
  unfold takesJump
  decide

theorem witness_MemoriesWithEqualReadsAreEqual :
    Memory.wf [(0x0000, 0x0001#16), (0xFFFF, 0x8000#16)] = true ∧ Memory.wf [(0xFFFF, 0x8000#16), (0x0000, 0x0001#16)] = false ∧
    Memory.wf [(0x10000, 0x0001#16)] = false ∧ Memory.wf [(0x0005, 0x0000#16)] = false ∧
    ∀ a, memRead [(0x0000, 0x0001#16), (0xFFFF, 0x8000#16)] a = memRead [(0x0000, 0x0001#16), (0xFFFF, 0x8000#16)] a :=
  ⟨by decide, by decide, by decide, by decide, fun _ => rfl⟩

theorem witness_EveryInstructionReachesTheDataStoreOnce :
    BitVec.getMsbD 0x1FC8#16 12 = true ∧ BitVec.getMsbD 0x1FC8#16 3 = true ∧ BitVec.getMsbD 0xFC10#16 12 = false ∧
    BitVec.getMsbD 0xFC10#16 3 = true := by decide

theorem witness_NoRunWritesTheInstructionStore : After 1 twoJumps twoJumpsNext ∧ twoJumpsNext ≠ twoJumps :=
  ⟨rfl, by decide⟩

/-- A state other than State.reset that meets Inv: S0 of the spec, whose ALU output is 0x0007. -/
theorem witness_StepKeepsTheInvariant : Inv s0 ∧ Inv State.reset := ⟨⟨rfl, rfl, rfl, rfl⟩, rfl, rfl, rfl, rfl⟩

/-- S0 and a state that differs from it in A.out, D.out and both flags. -/
theorem witness_OutputsAndFlagsOfThePastAreNeverRead :
    SameKept s0 { s0 with a := ⟨0x0011#16, 0x1234#16⟩, d := ⟨0x0002#16, 0x1234#16⟩, alu := ⟨0x0007#16, true, true⟩ } ∧
    After 1 s0 { s0 with halted := true } := ⟨⟨rfl, rfl, rfl, rfl, rfl, rfl, rfl, rfl⟩, rfl⟩

theorem witness_StartIdiomForgetsTheOpenLaunchValues : List.head? [0xEA80#16, 0x0007#16] = some 0xEA80#16 := rfl

theorem witness_LaunchPlacesProgramAndSeeds : [0xEA80#16, 0x0000#16].length ≤ 65536 ∧ ([] : List Word).length ≤ 65536 ∧
    (List.replicate 65536 0xEA80#16).length ≤ 65536 ∧
    zeroLatch.zr = zrFlag zeroLatch.out ∧ zeroLatch.ng = ngFlag zeroLatch.out :=
  ⟨by decide, by decide, List.length_replicate.le, rfl, rfl⟩

/-- Host Words of sixteen zeros and of sixteen ones, and one that is too short. -/
theorem witness_HostLaunchAcceptsOrRefusesByName :
    hostWord (List.replicate 16 0) = some 0#16 ∧ hostWord (List.replicate 16 1) = some 0xFFFF#16 ∧ hostWord [0] = none ∧
    (∃ h ∈ [[0]], hostWord h = none) ∧
    (∃ x ∈ [((List.replicate 16 0 : HostWord), ([0] : HostWord))], hostWord x.1 = none ∨ hostWord x.2 = none) ∧
    [List.replicate 16 1].map hostWord = [0xFFFF#16].map some ∧
    [(List.replicate 16 0, List.replicate 16 1)].map (fun x => (hostWord x.1, hostWord x.2)) =
      [(0#16, 0xFFFF#16)].map (fun x => (some x.1, some x.2)) ∧
    [0xFFFF#16].length ≤ 65536 ∧ ¬ (List.replicate 65537 0#16).length ≤ 65536 ∧ 2 ≤ 2 := by
  refine ⟨by decide, by decide, by decide, by decide, by decide, by decide, by decide, by decide, ?_, by decide⟩
  rw [List.length_replicate]
  decide

/-- Of the launch of one instruction: one that jumps in cycle 1, and one that does not. -/
theorem witness_AddressZeroExecutesTwiceAtLaunch :
    takesJump 0xEA87#16 (launchState zeroLatch [0xEA87#16] []) ∧
    ¬ takesJump 0x0001#16 (launchState zeroLatch [0x0001#16] []) := by
  unfold takesJump
  decide

/-- The program [0x0001] of 95_test_vectors.md 2.8, one instruction; and one of each format without a jump. -/
theorem witness_StraightLineProgramHaltsAfterNPlusTwoCycles :
    1 ≤ [0x0001#16].length ∧ [0x0001#16].length < 65536 ∧
    (∀ w ∈ [0x0007#16, 0xEC10#16], BitVec.getMsbD w 0 = false ∨ BitVec.extractLsb' 0 3 w = 0#3) ∧
    1 ≤ (List.replicate 65535 0xEA80#16).length ∧ (List.replicate 65535 0xEA80#16).length < 65536 := by
  refine ⟨by decide, by decide, ?_, ?_⟩
  · intro w hw
    simp only [List.mem_cons, List.not_mem_nil, or_false] at hw
    obtain rfl | rfl := hw
    · exact .inl (by decide)
    · exact .inr (by decide)
  · rw [List.length_replicate]
    omega

theorem witness_MOperandLagsAAndStoresDoNot :
    BitVec.getMsbD 0xFDC8#16 3 = true ∧ BitVec.getMsbD 0xFDC8#16 12 = true ∧ BitVec.getMsbD 0xFC10#16 3 = true := by decide

theorem witness_ResultReachesAOrDThroughTheNextInstruction :
    BitVec.getMsbD 0x0005#16 0 = false ∧ BitVec.getMsbD 0xE7FF#16 10 = true ∧ BitVec.getMsbD 0xE7FF#16 11 = true ∧
    BitVec.getMsbD 0xEA80#16 10 = false ∧ BitVec.getMsbD 0xEA80#16 11 = false := by decide

end Sys2Proof.Tests
end

section
/-! Runs as chains of steps, and the halted bit (10_state.md R29). -/

namespace Sys2Proof

open Machine

/-- No step: the state itself. -/
theorem after_zero_iff {s t : State} : After 0 s t ↔ t = s :=
  ⟨fun h => (Host.Outcome.next.inj h).symm, fun h => h ▸ rfl⟩

/-- A run of n + 1 steps is one step, then a run of n. -/
theorem after_succ_iff {n : Nat} {s t : State} :
    After (n + 1) s t ↔ ∃ s', step s = .next s' ∧ After n s' t := by
  have hcore : core.step s = step s := rfl
  simp only [After, Host.Core.run, hcore]
  cases step s <;> simp

/-- What every step keeps, every run keeps. -/
theorem After.preserves {P : State → Prop} (hstep : ∀ {s t : State}, P s → step s = .next t → P t) {n : Nat} {s t : State}
    (hrun : After n s t) (hs : P s) : P t := by
  induction n generalizing s with
  | zero => exact after_zero_iff.mp hrun ▸ hs
  | succ n ih =>
    obtain ⟨s', hs', hrest⟩ := after_succ_iff.mp hrun
    exact ih hrest (hstep hs hs')

namespace Machine

/-- A step leaves the halted bit set exactly when it was set or the fetch is absent: of the three things a step can do, an
executed cycle alone leaves the bit 0. -/
theorem step_halted_iff {s t : State} (hstep : step s = .next t) :
    t.halted = true ↔ s.halted = true ∨ fetch s = none := by
  obtain ⟨hh, he⟩ | ⟨-, hf, he⟩ | ⟨w, hh, hf, he⟩ := step_cases s <;>
    obtain rfl := Host.Outcome.next.inj (he.symm.trans hstep)
  · simp [hh]
  · simp [hf]
  · simp [hh, hf]

/-- Once 1, the halted bit is 1 after a step. -/
theorem step_keeps_halted {s t : State} (hs : s.halted = true) (hstep : step s = .next t) : t.halted = true :=
  (step_halted_iff hstep).mpr (.inl hs)

@[simp] theorem launchState_halted (l : AluLatch) (p : List Word) (sd : List (Word × Word)) :
    (launchState l p sd).halted = false := rfl

end Machine

/-- Settles O9: the halted bit by the cases of one step, and its persistence as what every step keeps. -/
theorem haltedBitIsSetByAnAbsentFetchOnly : Obligations.HaltedBitIsSetByAnAbsentFetchOnly :=
  ⟨fun _ _ => step_halted_iff, launchState_halted,
    fun _ _ _ hs hrun => hrun.preserves (P := Ended) step_keeps_halted hs⟩

end Sys2Proof
end

section
/-! The two stores: what a read of the data store gives after writes (20_memory.md R38 to R40), and that no step writes the
instruction store (R45). -/

namespace Sys2Proof

namespace Machine

/-- The read rule of the data store. A written ZERO is unlisted, not listed, and reads as ZERO all the same (log 6). -/
theorem memRead_memWrite (m : Memory) (a v b : Word) :
    memRead (memWrite m a v) b = if b = a then v else memRead m b := by
  unfold memRead memWrite
  by_cases hv : v = 0#16
  · simp only [if_pos hv, storeGet_storeErase, BitVec.toNat_inj]
    split_ifs <;> simp [hv]
  · simp only [if_neg hv, storeGet_storeSet, BitVec.toNat_inj]
    split_ifs <;> rfl

@[simp] theorem memRead_memWrite_same (m : Memory) (a v : Word) : memRead (memWrite m a v) a = v := by
  rw [memRead_memWrite, if_pos rfl]

/-- The last of the writes decides, so the induction takes the writes from the end. -/
theorem memRead_foldl_memWrite (m : Memory) (writes : List (Word × Word)) (b : Word) :
    memRead (writes.foldl (fun m p => memWrite m p.1 p.2) m) b =
      ((writes.reverse.find? (fun p => p.1 == b)).map Prod.snd).getD (memRead m b) := by
  induction writes using List.reverseRecOn with
  | nil => rfl
  | append_singleton earlier p ih =>
    rw [List.foldl_concat, List.reverse_concat, memRead_memWrite]
    by_cases hb : p.1 = b
    · simp [hb]
    · simp [hb, Ne.symm hb, ih]

@[simp] theorem process_write_mem (r : DataStore) (address input : Word) :
    (r.process address input true).mem = memWrite r.mem address input := rfl

@[simp] theorem process_noWrite_mem (r : DataStore) (address input : Word) :
    (r.process address input false).mem = r.mem := rfl

/-- Written or not, the latch is loaded from the contents after the operation. -/
theorem process_out (r : DataStore) (address input : Word) (write : Bool) :
    (r.process address input write).out = memRead (r.process address input write).mem address := rfl

/-- None of the three things a step can do reaches the instruction store. -/
theorem step_rom {s t : State} (hstep : step s = .next t) : t.rom = s.rom := by
  obtain ⟨-, he⟩ | ⟨-, -, he⟩ | ⟨w, -, -, he⟩ := step_cases s <;>
    obtain rfl := Host.Outcome.next.inj (he.symm.trans hstep)
  · rfl
  · exact State.withHalted_rom s true
  · exact cycle_rom (controlOf w) s

end Machine

open Machine

/-- A run leaves the instruction store as it found it. -/
theorem After.rom {n : Nat} {s t : State} (hrun : After n s t) : t.rom = s.rom :=
  hrun.preserves (P := (·.rom = s.rom)) (fun hu hstep => (step_rom hstep).trans hu) rfl

/-- Settles O36: the read rule for one write, and its induction over a sequence of writes, from the empty store. -/
theorem readsGiveTheLatestWrite : Obligations.ReadsGiveTheLatestWrite :=
  ⟨memRead_memWrite, memRead_foldl_memWrite []⟩

/-- Settles O40: no step writes the instruction store, so no run does, and a fetch reads nothing else. -/
theorem noRunWritesTheInstructionStore : Obligations.NoRunWritesTheInstructionStore :=
  fun _ _ _ hrun => ⟨hrun.rom, fun a => congrArg (romFetch · a) hrun.rom⟩

/-- Settles O37: the latch is read after the write, so a write of the input reads back as the input. -/
theorem dataStoreWritesThenReads : Obligations.DataStoreWritesThenReads := by
  intro r address input
  have hout : (r.process address input true).out = input := by
    rw [process_out, process_write_mem, memRead_memWrite_same]
  exact ⟨process_write_mem r address input, hout, process_out r address input true,
    process_noWrite_mem r address input, process_out r address input false⟩

end Sys2Proof
end

section
/-! The format bit ⟨0⟩ (30_encoding.md R61): what it says of the decoded instruction and of u(I). -/

namespace Sys2Proof

/-- The 128 rows of the C format, one per a bit and control code; none is the A-instruction's. -/
theorem decodeC_ne_atV (a : Bool) (c : AluControl) (u : BitVec 2) (d : Dest) (j : Jump) (v : Word) :
    decodeC a c u d j ≠ .atV v := by
  unfold decodeC
  split <;> exact Instr.noConfusion

/-- A Word decodes to an A-instruction only when its bit ⟨0⟩ is 0, and then to its own (R61, R62). -/
theorem decode_eq_atV_iff (w v : Word) : decode w = .atV v ↔ w.getMsbD 0 = false ∧ w = v := by
  unfold decode wordBit
  split
  next hc => simp [hc, decodeC_ne_atV]
  next ha => simp [ha]

theorem getMsbD_zero_eq_false_iff (w : Word) : w.getMsbD 0 = false ↔ w.toNat ≤ 0x7FFF := by
  have hmsb : w.getMsbD 0 = false ↔ 2 * w.toNat < 2 ^ 16 := BitVec.msb_eq_false_iff_two_mul_lt
  rw [hmsb]
  omega

theorem getMsbD_zero_eq_true_iff (w : Word) : w.getMsbD 0 = true ↔ 0x8000 ≤ w.toNat := by
  rw [← Bool.not_eq_false, getMsbD_zero_eq_false_iff]
  omega

/-- Settles O4: both format clauses from the one inversion of the decoder, both bounds from the top bit of u(I). -/
theorem bitZeroSelectsTheFormat : Obligations.BitZeroSelectsTheFormat := by
  intro w
  have hA : w.getMsbD 0 = false ↔ decode w = .atV w := by simp [decode_eq_atV_iff]
  have hC : w.getMsbD 0 = true ↔ ∀ v, decode w ≠ .atV v := by simp [decode_eq_atV_iff]
  exact ⟨hA, getMsbD_zero_eq_false_iff w, hC, getMsbD_zero_eq_true_iff w⟩

end Sys2Proof
end


section
/-! The primitives `Not` and `And` bit by bit (40_datapath.md R76, R77), and the flags as what the ALU output's bits say (R82). -/

namespace Sys2Proof

namespace Machine

@[simp] theorem getMsbD_notW (w : Word) {i : Nat} (hi : i < 16) : (notW w).getMsbD i = !w.getMsbD i := by
  simp [notW, hi]

@[simp] theorem getMsbD_andW (w v : Word) (i : Nat) : (andW w v).getMsbD i = (w.getMsbD i && v.getMsbD i) :=
  BitVec.getMsbD_and

theorem toNat_notW (w : Word) : (notW w).toNat = 65535 - w.toNat :=
  BitVec.toNat_not

/-- ZERO is the one Word without a bit, so zr reads every bit of the output. -/
theorem zrFlag_eq_true_iff (out : Word) : zrFlag out = true ↔ ∀ k, k < 16 → out.getMsbD k = false := by
  have hzero : zrFlag out = true ↔ out = 0#16 := beq_iff_eq
  rw [hzero]
  constructor
  · rintro rfl k -
    exact BitVec.getMsbD_zero
  · intro hbits
    refine BitVec.eq_of_getMsbD_eq fun k hk => ?_
    rw [hbits k hk, BitVec.getMsbD_zero]

theorem ngFlag_eq_true_iff (out : Word) : ngFlag out = true ↔ out.getMsbD 0 = true := Iff.rfl

/-- The flags of a latch are those of its own output (R82). -/
def AluLatch.FlagsDescribe (l : AluLatch) : Prop :=
  (l.zr = true ↔ ∀ k, k < 16 → l.out.getMsbD k = false) ∧ (l.ng = true ↔ l.out.getMsbD 0 = true)

/-- The ALU computes both flags from the output of the same call, whatever the operands and the control. -/
theorem alu_flagsDescribe (x y : Word) (c : AluControl) : (alu x y c).FlagsDescribe :=
  ⟨zrFlag_eq_true_iff (aluOut x y c), ngFlag_eq_true_iff (aluOut x y c)⟩

end Machine

open Machine

/-- Settles O43: whatever the instruction, its cycle leaves in the latch one result of the ALU function, which sets both flags from
its own output. -/
theorem flagsDescribeTheResult : Obligations.FlagsDescribeTheResult := by
  refine ⟨fun i s => ?_, fun x y c => ⟨rfl, alu_flagsDescribe x y c⟩⟩
  obtain ⟨c, hexec⟩ := exec_is_cycle i s
  refine ⟨cycle c s, hexec, ?_⟩
  rw [cycle_alu]
  exact alu_flagsDescribe _ _ _

/-- Settles O44: the two primitives bit by bit, `Not` by its unsigned value, and the spec's two examples by evaluation. -/
theorem notAndAndActOnEveryBit : Obligations.NotAndAndActOnEveryBit :=
  fun w v => ⟨fun _ hi => getMsbD_notW w hi, fun i _ => getMsbD_andW w v i, toNat_notW w, rfl, rfl⟩

end Sys2Proof
end

section
/-! The Register's `process` field by field (41_storage.md R88). -/

namespace Sys2Proof

namespace Machine

@[simp] theorem registerProcess_out (r : Storage) (write : Bool) (input : Word) :
    (registerProcess r write input).out = r.reg := rfl

@[simp] theorem registerProcess_reg_of_write (r : Storage) (input : Word) :
    (registerProcess r true input).reg = input := rfl

@[simp] theorem registerProcess_reg_of_no_write (r : Storage) (input : Word) :
    (registerProcess r false input).reg = r.reg := rfl

end Machine

open Machine

/-- Settles O33: the output is the old pending value in every call, so what one call latches the next one exposes. -/
theorem registerExposesWhatAnEarlierCallLatched : Obligations.RegisterExposesWhatAnEarlierCallLatched := by
  intro r x y write
  have hwrite : write = true → (registerProcess r write x).reg = x := by
    rintro rfl
    exact registerProcess_reg_of_write r x
  have hhold : write = false → (registerProcess r write x).reg = r.reg := by
    rintro rfl
    exact registerProcess_reg_of_no_write r x
  have hnext : (registerProcess (registerProcess r true x) false y).out = x := by
    rw [registerProcess_out, registerProcess_reg_of_write]
  exact ⟨registerProcess_out r write x, hwrite, hhold, registerProcess_out r true x, hnext⟩

end Sys2Proof
end

section
/-! What a decoded Word's cycle does to the registers, the ALU output and the data store, by the Word's own bits
(44_c_instruction.md R128, R139). -/

namespace Sys2Proof

namespace Machine

/-- A Word with bit ⟨12⟩ = 0, of either format, leaves the data store's contents as they were. -/
theorem cycle_controlOf_mem_of_no_store {w : Word} (hM : w.getMsbD 12 = false) (s : State) :
    (cycle (controlOf w) s).ram.mem = s.ram.mem := by
  have hdM : (controlOf w).d.dM = false := hM
  rw [cycle_ram, hdM, process_noWrite_mem]

/-- A Word with bit ⟨12⟩ = 1, of either format, stores its own cycle's result at the A value before that cycle. -/
theorem cycle_controlOf_mem_of_store {w : Word} (hM : w.getMsbD 12 = true) (s : State) :
    (cycle (controlOf w) s).ram.mem = memWrite s.ram.mem s.a.reg (cycle (controlOf w) s).alu.out := by
  have hdM : (controlOf w).d.dM = true := hM
  rw [cycle_ram, hdM, process_write_mem]

section
variable (c : Control) (w : Word) (s : State)

/-- A cycle exposes on A what A held pending before it, whatever it writes there (R88). -/
theorem cycle_a_out : (cycle c s).a.out = s.a.reg := by
  rw [cycle_a, registerProcess_out]

/-- A cycle exposes on D what D held pending before it, whatever it writes there (R88). -/
theorem cycle_d_out : (cycle c s).d.out = s.d.reg := by
  rw [cycle_d, registerProcess_out]

/-- The result of a Word's own cycle, of either format, by its a bit and control code (R101, R103). -/
theorem cycle_controlOf_alu_out : (cycle (controlOf w) s).alu.out =
    aluOut s.d.reg (if w.getMsbD 3 then s.ram.out else s.a.reg) (aluControlOf w) := rfl

/-- Every data address after a Word's cycle: the one stored to, if any, holds the result, and every other one its old Word. -/
theorem memRead_cycle_controlOf (b : Word) : memRead (cycle (controlOf w) s).ram.mem b =
    if w.getMsbD 12 = true ∧ b = s.a.reg then (cycle (controlOf w) s).alu.out else memRead s.ram.mem b := by
  cases hM : w.getMsbD 12 with
  | false =>
    rw [cycle_controlOf_mem_of_no_store hM]
    simp only [Bool.false_eq_true, false_and, if_false]
  | true =>
    rw [cycle_controlOf_mem_of_store hM, memRead_memWrite]
    simp only [true_and]

/-- With or without a store, RAM.out is what a read at the A value before the cycle gives after it (R40, D13). -/
theorem cycle_ram_out : (cycle c s).ram.out = memRead (cycle c s).ram.mem s.a.reg := by
  rw [cycle_ram, process_out]

end

section
variable {w : Word} (hC : w.getMsbD 0 = true) (s : State)
include hC

/-- A C-instruction writes A with the previous ALU output, and only when dA = 1 (R99, R100). -/
theorem cycle_controlOf_a_reg_of_isC : (cycle (controlOf w) s).a.reg = if w.getMsbD 10 then s.alu.out else s.a.reg := by
  have hisC : (controlOf w).isC = true := hC
  have hdA : (controlOf w).d.dA = w.getMsbD 10 := rfl
  rw [cycle_a, hisC, hdA]
  cases w.getMsbD 10 <;> rfl

/-- A C-instruction writes D with the previous ALU output, and only when dD = 1 (R102). -/
theorem cycle_controlOf_d_reg_of_isC : (cycle (controlOf w) s).d.reg = if w.getMsbD 11 then s.alu.out else s.d.reg := by
  have hisC : (controlOf w).isC = true := hC
  have hdD : (controlOf w).d.dD = w.getMsbD 11 := rfl
  rw [cycle_d, hisC, hdD]
  cases w.getMsbD 11 <;> rfl

end

end Machine

open Machine

/-- Settles O24: one rule per destination, each under its own bit of the Word, and the Registers' exposure for the cycle after. -/
theorem destinationsReceivePreviousOrCurrentResult : Obligations.DestinationsReceivePreviousOrCurrentResult := by
  intro w s hC
  refine ⟨cycle (controlOf w) s, exec_decode w s, cycle_controlOf_a_reg_of_isC hC s, cycle_controlOf_d_reg_of_isC hC s,
    cycle_controlOf_alu_out w s, memRead_cycle_controlOf w s, fun w' => ?_⟩
  exact ⟨_, exec_decode w' _, cycle_a_out _ _, cycle_d_out _ _⟩

/-- Settles O25: the store is at A before the cycle, which the latch reads afterwards, so the result is the
next instruction's inM. -/
theorem storeGoesToTheOldAAndIsReadNext : Obligations.StoreGoesToTheOldAAndIsReadNext := by
  intro w s _ hM
  have hmem := cycle_controlOf_mem_of_store hM s
  have hread : memRead (cycle (controlOf w) s).ram.mem s.a.reg = (cycle (controlOf w) s).alu.out := by
    rw [hmem, memRead_memWrite_same]
  have hout := (cycle_ram_out (controlOf w) s).trans hread
  refine ⟨_, exec_decode w s, hmem, hread, hout, fun w' hinM => ⟨_, exec_decode w' _, ?_⟩⟩
  rw [cycle_controlOf_alu_out, if_pos hinM, hout]

end Sys2Proof
end

section
/-! The encoder against the decoder (30_encoding.md R61 to R72): every instruction is an A-instruction or the C-instruction of its
fields, and the row of the opcode table is read off the same fields. -/

namespace Sys2Proof

open Machine Laws

/-- The six control bits as the string zx nx zy ny f no, the other way than `aluCode` (R65). -/
def controlCode (k : AluControl) : BitVec 6 :=
  BitVec.ofBool k.zx ++ BitVec.ofBool k.nx ++ BitVec.ofBool k.zy ++ BitVec.ofBool k.ny ++ BitVec.ofBool k.f ++ BitVec.ofBool k.no

@[simp] theorem controlCode_aluCode : ∀ c : BitVec 6, controlCode (aluCode c) = c := by decide

@[simp] theorem controlCode_aluControlOf (w : Word) : controlCode (aluControlOf w) = codeOf w := by
  rw [← aluCode_codeOf, controlCode_aluCode]

/-- The mark of a row in a C-instruction's Word: bit ⟨0⟩, the a bit and the code, with every free field 0 (R70). -/
def rowPattern (a : Bool) (c : BitVec 6) : Word := cWord 0#2 a c ⟨false, false, false⟩ ⟨false, false, false⟩

section
variable (a : Bool) (k : AluControl) (u : BitVec 2) (d : Dest) (j : Jump)

@[simp] theorem encode_decodeC : encode (decodeC a k u d j) = cWord u a (controlCode k) d j := by
  obtain ⟨zx, nx, zy, ny, f, no⟩ := k
  cases a <;> cases zx <;> cases nx <;> cases zy <;> cases ny <;> cases f <;> cases no <;> rfl

@[simp] theorem wellFormed_decodeC : (decodeC a k u d j).wellFormed = true := by
  unfold decodeC
  split <;> rfl

@[simp] theorem row_decodeC_mask : (decodeC a k u d j).row.mask = cMask := by
  unfold decodeC
  split <;> rfl

@[simp] theorem row_decodeC_pattern : (decodeC a k u d j).row.pattern = rowPattern a (controlCode k) := by
  obtain ⟨zx, nx, zy, ny, f, no⟩ := k
  cases a <;> cases zx <;> cases nx <;> cases zy <;> cases ny <;> cases f <;> cases no <;> rfl

/-- The free fields do not choose the row. -/
theorem row_decodeC_congr (u' : BitVec 2) (d' : Dest) (j' : Jump) :
    (decodeC a k u d j).row = (decodeC a k u' d' j').row := by
  unfold decodeC
  split <;> rfl

end

/-- Every instruction is the A-instruction of its value or the C-instruction of its fields. -/
theorem instr_cases (i : Instr) : (∃ v, i = .atV v) ∨ ∃ a c u d j, i = decodeC a (aluCode c) u d j := by
  have hfields : (∃ v, i = .atV v) ∨
      ∃ a c u d j, encode i = cWord u a c d j ∧ i = decodeC a (aluCode c) u d j := by
    cases i with
    | atV v => exact .inl ⟨v, rfl⟩
    | _ => exact .inr ⟨_, _, _, _, _, rfl, rfl⟩
  exact hfields.imp_right fun ⟨a, c, u, d, j, _, hi⟩ => ⟨a, c, u, d, j, hi⟩

theorem decode_of_isA {w : Word} (hA : w.getMsbD 0 = false) : decode w = .atV w :=
  (decode_eq_atV_iff w w).mpr ⟨hA, rfl⟩

theorem decode_of_isC {w : Word} (hC : w.getMsbD 0 = true) :
    decode w = decodeC (wordBit w 3) (aluControlOf w) (unusedOf w) (destOf w) (jumpOf w) :=
  if_pos hC

/-- Settles O1: for a C-instruction the decoder reads off the encoded Word the fields it was built from. -/
theorem encodeThenDecodeGivesTheInstruction : Obligations.EncodeThenDecodeGivesTheInstruction := by
  intro i hwf
  obtain ⟨v, rfl⟩ | ⟨a, c, u, d, j, rfl⟩ := instr_cases i
  · have hA : v.getMsbD 0 = false := by simpa [Instr.wellFormed] using hwf
    exact decode_of_isA hA
  · rw [encode_decodeC, controlCode_aluCode, decode_of_isC (wordBit_zero_cWord u a c d j), wordBit_three_cWord,
      aluControlOf_cWord, unusedOf_cWord, destOf_cWord, jumpOf_cWord]

/-- Settles O2: a Word with bit ⟨0⟩ = 1 is put together again from its fields, and one with bit ⟨0⟩ = 0 is the payload itself. -/
theorem decodeThenEncodeGivesTheWord : Obligations.DecodeThenEncodeGivesTheWord := by
  intro w
  cases hw : w.getMsbD 0 with
  | false =>
    rw [decode_of_isA hw]
    exact ⟨by simp [Instr.wellFormed, hw], rfl⟩
  | true =>
    rw [decode_of_isC hw, encode_decodeC, controlCode_aluControlOf]
    exact ⟨wellFormed_decodeC _ _ _ _ _, cWord_fields w hw⟩

/-- Settles O3: each Word by evaluation of the decoder. -/
theorem specWordsDecodeAsWritten : Obligations.SpecWordsDecodeAsWritten :=
  ⟨rfl, rfl, rfl, rfl, rfl, rfl, rfl⟩

/-- A Word is of the row of an a bit and a code exactly when it is a C-instruction with that a bit and that code (R70). -/
theorem and_cMask_eq_rowPattern_iff (w : Word) (a : Bool) (c : BitVec 6) :
    w &&& cMask = rowPattern a c ↔ w.getMsbD 0 = true ∧ wordBit w 3 = a ∧ aluControlOf w = aluCode c := by
  constructor
  · intro hw
    have hbit : ∀ i, cMask.getMsbD i = true → w.getMsbD i = wordBit (rowPattern a c) i := by
      intro i hi
      rw [← hw, wordBit, BitVec.getMsbD_and, hi, Bool.and_true]
    refine ⟨(hbit 0 rfl).trans (wordBit_zero_cWord ..), (hbit 3 rfl).trans (wordBit_three_cWord ..), ?_⟩
    rw [← aluControlOf_cWord 0#2 a c ⟨false, false, false⟩ ⟨false, false, false⟩]
    simp only [aluControlOf, AluControl.mk.injEq]
    exact ⟨hbit 4 rfl, hbit 5 rfl, hbit 6 rfl, hbit 7 rfl, hbit 8 rfl, hbit 9 rfl⟩
  · rintro ⟨hC, rfl, hk⟩
    have hcode : codeOf w = c := by rw [← controlCode_aluControlOf, hk, controlCode_aluCode]
    rw [← cWord_fields w hC, cWord_and_cMask, hcode]
    simp [rowPattern]

/-- Settles O5: a C row's pattern fixes bit ⟨0⟩, the a bit and the code of every Word that matches it, and the A row fixes
bit ⟨0⟩. -/
theorem eachWordMatchesOneOpcodeRow : Obligations.EachWordMatchesOneOpcodeRow := by
  intro w
  constructor
  · cases hw : w.getMsbD 0 with
    | false =>
      rw [decode_of_isA hw]
      exact and_signBit_of_wellFormed w (by simp [Instr.wellFormed, hw])
    | true =>
      rw [decode_of_isC hw, row_decodeC_mask, row_decodeC_pattern, and_cMask_eq_rowPattern_iff]
      exact ⟨hw, rfl, by rw [controlCode_aluControlOf, aluCode_codeOf]⟩
  · intro i hrow
    obtain ⟨v, rfl⟩ | ⟨a, c, u, d, j, rfl⟩ := instr_cases i
    · have hA : w.getMsbD 0 = false := by simpa [Instr.row] using congrArg (BitVec.getMsbD · 0) hrow
      rw [decode_of_isA hA]
      rfl
    · rw [row_decodeC_mask, row_decodeC_pattern, controlCode_aluCode, and_cMask_eq_rowPattern_iff] at hrow
      obtain ⟨hC, rfl, hk⟩ := hrow
      rw [decode_of_isC hC, hk]
      exact row_decodeC_congr _ _ _ _ _ _ _ _

end Sys2Proof
end

section
/-! A decoded Word's cycle as the equations of R109, and what both formats do to the registers, the data store and the state
around them (42_cpu_cycle.md sections 1 and 2, 43_a_instruction.md, 10_state.md section 7). -/

namespace Sys2Proof

namespace Machine

open Spec

section
variable (r : DataStore) (address input : Word)

/-- The data store's operation with and without a write, as R40 has it. -/
theorem process_eq (write : Bool) : r.process address input write =
    if write then { mem := memWrite r.mem address input, out := input } else { mem := r.mem, out := memRead r.mem address } := by
  cases write with
  | false => rfl
  | true => exact congrArg (DataStore.mk _) (memRead_memWrite_same _ _ _)

end

section
variable (w : Word) (s : State)

/-- The ordered steps of a Word's cycle give the state of the equations of R109. -/
theorem cycle_controlOf : cycle (controlOf w) s = stateFunction w s := by
  refine State.ext_fields ?_ rfl ?_ rfl rfl rfl rfl rfl
  · simp only [cycle_a, controlOf, wordBit, destOf, stateFunction, registerProcess, mux]
    cases w.getMsbD 0 <;> simp
  · simp only [cycle_pc, stateFunction, Bool.not_not]
    rfl

/-- Of the C-instruction of given fields the equations use no bit but those fields (R126). -/
theorem exec_decodeC_eq_cAfter (a : Bool) (k : AluControl) (u : BitVec 2) (d : Dest) (j : Jump) :
    exec (decodeC a k u d j) s = .next (cAfter (aluOut s.d.reg (if a then s.ram.out else s.a.reg) k) d j s) := by
  rw [exec_decodeC a k u d j 0#16 s]
  refine congrArg Host.Outcome.next (State.ext_fields ?_ ?_ ?_ ?_ ?_ rfl rfl rfl)
  · rw [cycle_a]; rfl
  · rw [cycle_d]; rfl
  · rw [cycle_pc]; rfl
  · rfl
  · rw [cycle_ram, process_eq]; rfl

/-- Of an A-instruction the equations of R109 leave the state of 43_a_instruction.md: both registers written, no jump (R117). -/
theorem stateFunction_of_isA {w : Word} (hA : w.getMsbD 0 = false) : stateFunction w s =
    aAfter w (aluOut s.d.reg (if w.getMsbD 3 then s.ram.out else s.a.reg) (aluControlOf w)) s := by
  refine State.ext_fields ?_ ?_ ?_ rfl ?_ rfl rfl rfl
  · simp [stateFunction, aAfter, hA]
  · simp [stateFunction, aAfter, hA]
  · simp [stateFunction, aAfter, hA, pcAfter, adder]
  · exact process_eq _ _ _ _

/-- An A-instruction writes A with its Word, and a C-instruction with dA = 1 with the previous ALU output (R99, R100). -/
theorem cycle_controlOf_a_reg : (cycle (controlOf w) s).a.reg =
    if w.getMsbD 0 = false then w else if w.getMsbD 10 then s.alu.out else s.a.reg := by
  rw [cycle_controlOf]
  cases hw : w.getMsbD 0 <;> simp [stateFunction, hw]

/-- An A-instruction, and a C-instruction with dD = 1, writes D with the previous ALU output (R102). -/
theorem cycle_controlOf_d_reg : (cycle (controlOf w) s).d.reg =
    if w.getMsbD 0 = false ∨ w.getMsbD 11 = true then s.alu.out else s.d.reg := by
  rw [cycle_controlOf]
  cases hw : w.getMsbD 0 <;> simp [stateFunction, hw]

end

end Machine

open Machine Spec

/-- Settles O11: the decoded instruction's own meaning is one cycle on its Word's control lines, and that is R109. -/
theorem cycleIsTheStateFunctionOfItsWord : Obligations.CycleIsTheStateFunctionOfItsWord := by
  intro w s
  rw [exec_decode, cycle_controlOf]

/-- Settles O12: R109 at bit ⟨0⟩ = 0. -/
theorem aInstructionResult : Obligations.AInstructionResult := by
  intro v s hA
  rw [← decode_of_isA hA, cycleIsTheStateFunctionOfItsWord, stateFunction_of_isA s hA]
  rfl

/-- Settles O13: an A-instruction's writes and its increment, and the Registers' exposure in the cycle after. -/
theorem aInstructionWritesAAndDAndNeverJumps : Obligations.AInstructionWritesAAndDAndNeverJumps := by
  intro v s hA
  have ha : (cycle (controlOf v) s).a.reg = v := by rw [cycle_controlOf_a_reg, if_pos hA]
  have hd : (cycle (controlOf v) s).d.reg = s.alu.out := by rw [cycle_controlOf_d_reg, if_pos (.inl hA)]
  rw [← decode_of_isA hA]
  refine ⟨_, exec_decode v s, ha, cycle_a_out _ _, cycle_ram_out _ _, cycle_controlOf_alu_out v s, hd, cycle_d_out _ _, ?_, ?_,
    fun w => ⟨_, exec_decode w _, ?_, ?_⟩⟩
  · intro hreset
    rw [cycle_controlOf, stateFunction_of_isA s hA]
    simp [aAfter, pcAfter, hreset]
  · rw [hd]
  · rw [cycle_a_out, ha]
  · rw [cycle_d_out, hd]

/-- Bit ⟨12⟩ of a Word is bit [3] of its value. -/
theorem getMsbD_twelve_eq_decide (v : Word) : v.getMsbD 12 = decide (8 ≤ v.toNat % 16) := by
  have hbit : v.getMsbD 12 = v.toNat.testBit 3 := rfl
  rw [hbit, Nat.testBit_eq_decide_div_mod_eq, decide_eq_decide]
  omega

/-- Settles O14: an A-instruction's store is that of every Word, under bit ⟨12⟩ of its value. -/
theorem aInstructionStoresByItsValueBitThree : Obligations.AInstructionStoresByItsValueBitThree := by
  intro v s hA
  rw [← decode_of_isA hA]
  refine ⟨_, exec_decode v s, fun hstore => ⟨?_, fun b hb => ?_⟩, fun hnoStore b => ?_⟩
  · rw [memRead_cycle_controlOf, getMsbD_twelve_eq_decide]
    simp [hstore]
  · rw [memRead_cycle_controlOf, if_neg (fun h => hb h.2)]
  · rw [memRead_cycle_controlOf, getMsbD_twelve_eq_decide]
    simp [hnoStore]

/-- Two C-instruction Words with the same fields, whatever their bits ⟨1⟩ and ⟨2⟩, put the same lines out but for the Word. -/
theorem controlOf_with_word {w w' : Word} (heq : ∀ i, i ≠ 1 → i ≠ 2 → w.getMsbD i = w'.getMsbD i) :
    { controlOf w with word := w' } = controlOf w' := by
  simp [controlOf, aluControlOf, destOf, jumpOf, wordBit, heq]

/-- Settles O6: the cycle of a C-instruction does not use the Word itself, and an A-instruction puts its whole Word in A. -/
theorem unusedBitsOfCInstructionsHaveNoEffect : Obligations.UnusedBitsOfCInstructionsHaveNoEffect := by
  constructor
  · intro w1 w2 s hC _ heq
    refine ⟨?_, _, exec_decode w1 s⟩
    rw [exec_decode, exec_decode, ← controlOf_with_word heq, cycle_word_of_isC _ s w2 hC]
  · intro w s hA
    have hreg : (cycle (controlOf w) s).a.reg = w := by rw [cycle_controlOf_a_reg, if_pos hA]
    exact ⟨_, exec_decode w s, by rw [hreg], by rw [hreg]⟩

/-- Settles O26: each row of the table is one cycle from S0. -/
theorem destinationExamplesFromS0 : Obligations.DestinationExamplesFromS0 := by
  refine ⟨?_, ?_, ?_, ?_, ?_, ?_, ?_, ?_⟩ <;>
    exact ⟨_, exec_decode _ s0, rfl, rfl, rfl, rfl, rfl⟩

/-- Settles O27: a register is left when its own bit of a C-instruction is 0, an address when it is not the one stored to. -/
theorem frameOfEveryInstruction : Obligations.FrameOfEveryInstruction := by
  intro w s
  refine ⟨_, exec_decode w s, fun hC hdA => ?_, fun hC hdD => ?_, fun _ b hb => ?_, fun hM b => ?_, rfl, rfl, rfl⟩
  · simp only [cycle_controlOf_a_reg_of_isC hC, hdA, Bool.false_eq_true, if_false]
  · simp only [cycle_controlOf_d_reg_of_isC hC, hdD, Bool.false_eq_true, if_false]
  · rw [memRead_cycle_controlOf, if_neg (fun h => hb h.2)]
  · rw [cycle_controlOf_mem_of_no_store hM]

/-- Settles O39: the store is at A before the cycle, the latch is loaded there after it, and the next inM is the latch. -/
theorem everyInstructionReachesTheDataStoreOnce : Obligations.EveryInstructionReachesTheDataStoreOnce := by
  intro w s
  refine ⟨_, exec_decode w s, cycle_a_out _ _, ?_, cycle_ram_out _ _, cycle_controlOf_alu_out w s, fun w' hinM => ?_⟩
  · cases hM : w.getMsbD 12 with
    | false => exact cycle_controlOf_mem_of_no_store hM s
    | true => exact cycle_controlOf_mem_of_store hM s
  · refine ⟨_, exec_decode w' _, ?_⟩
    rw [cycle_controlOf_alu_out, if_pos hinM, cycle_ram_out]

/-- Settles O53: each M operand is the latch, loaded at the A value before the instruction that loads it; each store is at A. -/
theorem mOperandLagsAAndStoresDoNot : Obligations.MOperandLagsAAndStoresDoNot := by
  intro w1 w2 w3 s
  refine ⟨_, _, _, exec_decode w1 s, exec_decode w2 _, exec_decode w3 _, fun hinM => ?_, fun hM b => ?_, fun hinM => ?_⟩
  · rw [cycle_controlOf_alu_out, if_pos hinM, cycle_ram_out]
  · rw [memRead_cycle_controlOf]
    simp only [hM, true_and]
  · rw [cycle_controlOf_alu_out, if_pos hinM, cycle_ram_out]

/-- Settles O54: the second instruction's writes of A and D, exposed and used as operands by the third. -/
theorem resultReachesAOrDThroughTheNextInstruction : Obligations.ResultReachesAOrDThroughTheNextInstruction := by
  intro w1 w2 w3 s
  exact ⟨_, _, _, exec_decode w1 s, exec_decode w2 _, exec_decode w3 _, cycle_controlOf_d_reg w2 _, cycle_controlOf_a_reg w2 _,
    cycle_d_out _ _, cycle_a_out _ _, cycle_controlOf_alu_out w3 _⟩

end Sys2Proof
end

section
/-! The 64 control codes (45_alu_codes.md section 2): what preconditioning leaves of an operand, and from a code's function of x
and y to both of its instructions and every A-instruction that carries it. -/

namespace Sys2Proof

namespace Machine

/-! The four settings of a zero bit and a complement bit (R81 steps 1 to 4). -/

@[simp] theorem precondition_keep (w : Word) : precondition false false w = w := rfl

@[simp] theorem precondition_complement (w : Word) : precondition false true w = ~~~w := rfl

@[simp] theorem precondition_zero (w : Word) : precondition true false w = 0#16 := rfl

@[simp] theorem precondition_ones (w : Word) : precondition true true w = 0xFFFF#16 := by
  simp [precondition, notW]

/-! ONES is neutral for the conjunction. -/

@[simp] theorem and_ones (w : Word) : w &&& 0xFFFF#16 = w := BitVec.and_allOnes

@[simp] theorem ones_and (w : Word) : 0xFFFF#16 &&& w = w := BitVec.allOnes_and

/-- The ALU under a control code: f chooses the sum or the conjunction of the preconditioned operands, no complements it (R81). -/
theorem aluOut_aluCode (x y : Word) (c : BitVec 6) : aluOut x y (aluCode c) =
    (let px := precondition (c.getMsbD 0) (c.getMsbD 1) x
     let py := precondition (c.getMsbD 2) (c.getMsbD 3) y
     let r := if c.getMsbD 4 then px + py else px &&& py
     if c.getMsbD 5 then ~~~r else r) := rfl

end Machine

open Machine Spec Laws

/-- A rule of 45_alu_codes.md from the code's function: its Words decode to the C-instruction of their fields, and a cycle of
either format uses no more of the code than the ALU output it gives. -/
theorem codeComputes_of_aluOut {c : BitVec 6} {fn : Word → Word → Word} (hfn : ∀ x y, aluOut x y (aluCode c) = fn x y) :
    CodeComputes c (rowPattern false c) (rowPattern true c) (decodeC false (aluCode c)) (decodeC true (aluCode c)) fn := by
  have hdecode : ∀ a w, w &&& cMask = rowPattern a c →
      decode w = decodeC a (aluCode c) (unusedOf w) (destOf w) (jumpOf w) := by
    intro a w hrow
    obtain ⟨hC, rfl, hk⟩ := (and_cMask_eq_rowPattern_iff w a c).mp hrow
    rw [decode_of_isC hC, hk]
  have hexec : ∀ a u d j s, exec (decodeC a (aluCode c) u d j) s =
      .next (cAfter (fn s.d.reg (if a then s.ram.out else s.a.reg)) d j s) := by
    intro a u d j s
    rw [exec_decodeC_eq_cAfter, hfn]
  refine ⟨hdecode false, hdecode true, hexec false, hexec true, fun v s hA hcode => ?_⟩
  have hk : aluControlOf v = aluCode c := by rw [← aluCode_codeOf, codeOf, hcode]
  rw [← decode_of_isA hA, cycleIsTheStateFunctionOfItsWord, stateFunction_of_isA s hA, hk, hfn]

/-- Settles O15: each code preconditions one operand or both to constants on which its f and no give ZERO. -/
theorem zeroCodesComputeZero : Obligations.ZeroCodesComputeZero := by
  refine ⟨?_, ?_, ?_, ?_, ?_, ?_, ?_, ?_, ?_, ?_, ?_⟩ <;>
    exact codeComputes_of_aluOut fun x y => by simp [aluOut_aluCode]

/-- Settles O16: each code preconditions one operand or both to constants on which its f and no give ONES. -/
theorem onesCodesComputeMinusOne : Obligations.OnesCodesComputeMinusOne := by
  refine ⟨?_, ?_, ?_, ?_, ?_, ?_, ?_, ?_, ?_, ?_, ?_⟩ <;>
    exact codeComputes_of_aluOut fun x y => by simp [aluOut_aluCode]

/-- Settles O17: both operands are preconditioned to ONES, and -2 is their sum, ONE its complement. -/
theorem oneAndMinusTwoCodes : Obligations.OneAndMinusTwoCodes := by
  refine ⟨?_, ?_⟩ <;>
    exact codeComputes_of_aluOut fun x y => by simp [aluOut_aluCode]

/-- Settles O18: y is preconditioned to a constant that is neutral for the code's f, and the complements before and after f
compose. -/
theorem dRegisterAndComplementCodes : Obligations.DRegisterAndComplementCodes := by
  refine ⟨?_, ?_, ?_, ?_, ?_, ?_, ?_, ?_⟩ <;>
    exact codeComputes_of_aluOut fun x y => by simp [aluOut_aluCode]

/-- Settles O19: y is preconditioned to ONES, which is -1, and a complement is -w - 1, modulo 2^16. -/
theorem dRegisterArithmeticCodes : Obligations.DRegisterArithmeticCodes := by
  refine ⟨?_, ?_, ?_, ?_⟩ <;> refine codeComputes_of_aluOut fun x y => ?_
  all_goals simp only [aluOut_aluCode, BitVec.reduceGetMsb, Bool.false_eq_true, if_true, if_false, precondition_keep,
    precondition_complement, precondition_ones]
  all_goals bv_omega

/-- Settles O20: x is preconditioned to a constant that is neutral for the code's f, and the complements before and after f
compose. -/
theorem yOperandAndComplementCodes : Obligations.YOperandAndComplementCodes := by
  refine ⟨?_, ?_, ?_, ?_, ?_, ?_, ?_, ?_⟩ <;>
    exact codeComputes_of_aluOut fun x y => by simp [aluOut_aluCode]

/-- Settles O21: x is preconditioned to ONES, which is -1, and a complement is -w - 1, modulo 2^16. -/
theorem yOperandArithmeticCodes : Obligations.YOperandArithmeticCodes := by
  refine ⟨?_, ?_, ?_, ?_⟩ <;> refine codeComputes_of_aluOut fun x y => ?_
  all_goals simp only [aluOut_aluCode, BitVec.reduceGetMsb, Bool.false_eq_true, if_true, if_false, precondition_keep,
    precondition_complement, precondition_ones]
  all_goals bv_omega

/-- Settles O22: the disjunctions by the laws of De Morgan. -/
theorem logicCodes : Obligations.LogicCodes := by
  refine ⟨?_, ?_, ?_, ?_, ?_, ?_, ?_, ?_⟩ <;>
    exact codeComputes_of_aluOut fun x y => by simp [aluOut_aluCode, BitVec.not_and, BitVec.not_or]

/-- Settles O23: a complement is -w - 1, modulo 2^16. -/
theorem sumAndDifferenceCodes : Obligations.SumAndDifferenceCodes := by
  refine ⟨?_, ?_, ?_, ?_, ?_, ?_, ?_, ?_⟩ <;> refine codeComputes_of_aluOut fun x y => ?_
  all_goals simp only [aluOut_aluCode, BitVec.reduceGetMsb, Bool.false_eq_true, if_true, if_false, precondition_keep,
    precondition_complement]
  all_goals bv_omega

end Sys2Proof
end

section
/-! The PC and the jump (41_storage.md section 2, 46_jump.md): the decision on the flags as a condition on the signed result, and
the PC a Word's cycle leaves. -/

namespace Sys2Proof

namespace Machine

open Spec

@[simp] theorem pcProcess_out (p : Storage) (reset load : Bool) (x : Word) :
    (pcProcess p reset load x).out = if reset then 0#16 else p.reg := rfl

@[simp] theorem pcProcess_reg (p : Storage) (reset load : Bool) (x : Word) :
    (pcProcess p reset load x).reg = if load then x else (pcProcess p reset load x).out + 1#16 := rfl

/-- ng is the sign (R82). -/
theorem ngFlag_eq_decide (r : Word) : ngFlag r = decide (r.toInt < 0) := by
  have hmsb : ngFlag r = r.msb := rfl
  rw [hmsb, BitVec.msb_eq_toInt]

theorem zrFlag_eq_decide (r : Word) : zrFlag r = decide (r = 0#16) := rfl

/-- The jump decision on the flags of a result, by the sign of the result (R210). -/
theorem jumpDecision_flags_iff (j : Jump) (r : Word) : jumpDecision true j (zrFlag r) (ngFlag r) = true ↔
    (j.jN = true ∧ r.toInt < 0) ∨ (j.jZ = true ∧ r = 0#16) ∨ (j.jP = true ∧ 0 ≤ r.toInt) := by
  simp [jumpDecision, zrFlag_eq_decide, ngFlag_eq_decide, or_assoc]

section
variable (w : Word) (s : State)

theorem cycle_controlOf_flags : (cycle (controlOf w) s).alu.zr = zrFlag (cycle (controlOf w) s).alu.out ∧
    (cycle (controlOf w) s).alu.ng = ngFlag (cycle (controlOf w) s).alu.out := ⟨rfl, rfl⟩

/-- The cycle loads the PC exactly when its Word takes a jump. -/
theorem takesJump_iff : takesJump w s ↔
    jumpDecision (controlOf w).isC (controlOf w).j (cycle (controlOf w) s).alu.zr (cycle (controlOf w) s).alu.ng = true := by
  obtain ⟨hzr, hng⟩ := cycle_controlOf_flags w s
  have hisC : (controlOf w).isC = w.getMsbD 0 := rfl
  rw [hzr, hng, hisC]
  cases hw : w.getMsbD 0 with
  | false => simp [takesJump, hw, jumpDecision]
  | true =>
    rw [jumpDecision_flags_iff]
    simp only [takesJump, hw, true_and]
    rfl

/-- Reset forces the output to ZERO; otherwise it is the pending value (R91). -/
theorem cycle_pc_out (c : Control) : (cycle c s).pc.out = if s.resetIn then 0#16 else s.pc.reg := by
  rw [cycle_pc, pcProcess_out]

variable {w s}

theorem cycle_pc_out_of_no_reset (c : Control) (hreset : s.resetIn = false) : (cycle c s).pc.out = s.pc.reg := by
  rw [cycle_pc_out, hreset]
  rfl

theorem cycle_pc_reg_of_takesJump (hj : takesJump w s) : (cycle (controlOf w) s).pc.reg = s.a.reg := by
  rw [takesJump_iff] at hj
  rw [cycle_pc, pcProcess_reg, if_pos hj]

theorem cycle_pc_reg_of_not_takesJump (hj : ¬ takesJump w s) :
    (cycle (controlOf w) s).pc.reg = (cycle (controlOf w) s).pc.out + 1#16 := by
  rw [takesJump_iff] at hj
  rw [cycle_pc, pcProcess_reg, if_neg hj]

/-- What a cycle leaves in PC.reg, under any condition that says whether the Word takes a jump. -/
theorem cycle_pc_reg_of_takesJump_iff {P : Prop} [Decidable P] (hP : takesJump w s ↔ P) :
    if P then (cycle (controlOf w) s).pc.reg = s.a.reg
    else (cycle (controlOf w) s).pc.reg = (cycle (controlOf w) s).pc.out + 1#16 := by
  split
  next hp => exact cycle_pc_reg_of_takesJump (hP.mpr hp)
  next hp => exact cycle_pc_reg_of_not_takesJump (mt hP.mp hp)

/-- A C-instruction's jump by its jump code, the bits ⟨13⟩ to ⟨15⟩ read as one string, and its signed result (R210). -/
theorem takesJump_iff_of_code {c : BitVec 3} (hC : w.getMsbD 0 = true) (hcode : w.extractLsb' 0 3 = c) : takesJump w s ↔
    (c.getMsbD 0 = true ∧ (cycle (controlOf w) s).alu.out.toInt < 0) ∨
    (c.getMsbD 1 = true ∧ (cycle (controlOf w) s).alu.out.toInt = 0) ∨
    (c.getMsbD 2 = true ∧ 0 ≤ (cycle (controlOf w) s).alu.out.toInt) := by
  subst hcode
  rw [cycle_controlOf_alu_out, ← BitVec.toInt_zero (w := 16), BitVec.toInt_inj]
  simp only [takesJump, hC, true_and]
  simp [BitVec.getMsbD]

end

end Machine

open Machine Spec

/-- Settles O34: the three rows of the spec are instances of the four clauses, by evaluation. -/
theorem programCounterResetThenLoadThenIncrement : Obligations.ProgramCounterResetThenLoadThenIncrement := by
  refine ⟨fun p reset load x => ⟨?_, ?_, ?_, ?_⟩, fun o x => ⟨rfl, rfl, rfl⟩⟩
  · rintro rfl
    rfl
  · rintro rfl
    rfl
  · rintro rfl
    rfl
  · rintro rfl
    rfl

/-- Settles O28: both flags are those of this cycle's output, and the PC process reads them. -/
theorem jumpDecisionReadsThisResult : Obligations.JumpDecisionReadsThisResult := by
  intro w s hC
  refine ⟨_, exec_decode w s, cycle_controlOf_alu_out w s, rfl, rfl, ?_, cycle_a_out _ _, ?_⟩
  · rw [(cycle_controlOf_flags w s).2, ngFlag_eq_decide, decide_eq_true_iff]
  · have hisC : (controlOf w).isC = true := hC
    rw [cycle_pc, pcProcess_reg, hisC, cycle_a_out]
    rfl

/-- Settles O29: for each code the three clauses of the decision add up to one condition on the signed result. -/
theorem eightJumpCodesBySignedResult : Obligations.EightJumpCodesBySignedResult := by
  intro w s hC
  have hpc {P : Prop} [Decidable P] := cycle_pc_reg_of_takesJump_iff (w := w) (s := s) (P := P)
  refine ⟨_, exec_decode w s, fun hcode => ?_, fun hcode => hpc ?_, fun hcode => hpc ?_, fun hcode => hpc ?_,
    fun hcode => hpc ?_, fun hcode => ?_, fun hcode => hpc ?_, fun hcode => ?_⟩
  · exact cycle_pc_reg_of_not_takesJump (by simp [takesJump_iff_of_code hC hcode])
  · simp [takesJump_iff_of_code hC hcode]
  · simp [takesJump_iff_of_code hC hcode]
  · simp only [takesJump_iff_of_code hC hcode, BitVec.reduceGetMsb, Bool.false_eq_true, false_and, true_and, false_or]
    omega
  · simp [takesJump_iff_of_code hC hcode]
  · refine cycle_pc_reg_of_takesJump ?_
    simp only [takesJump_iff_of_code hC hcode, BitVec.reduceGetMsb, Bool.false_eq_true, false_and, true_and, false_or]
    omega
  · simp only [takesJump_iff_of_code hC hcode, BitVec.reduceGetMsb, Bool.false_eq_true, false_and, true_and, or_false]
    omega
  · refine cycle_pc_reg_of_takesJump ?_
    simp only [takesJump_iff_of_code hC hcode, BitVec.reduceGetMsb, true_and]
    omega

/-- Settles O30: the jump bit jP decides on r = 1, which is positive, and on r = 0, which is not; so each j errs on one of them. -/
theorem noJumpCodeTestsPositiveOrNonzero : Obligations.NoJumpCodeTestsPositiveOrNonzero := by
  intro j
  simp only [jumpDecision_flags_iff]
  cases hP : j.jP with
  | false => exact ⟨⟨1#16, by simp⟩, ⟨1#16, by simp⟩⟩
  | true => exact ⟨⟨0#16, by simp⟩, ⟨0#16, by simp⟩⟩

/-- Settles O35: the reset input reaches the PC's process alone, and the jump decision does not read it. -/
theorem resetInputActsOnThePcOnly : Obligations.ResetInputActsOnThePcOnly := by
  intro w s
  have hout : (cycle (controlOf w) { s with resetIn := true }).pc.out = 0#16 := cycle_pc_out _ _
  refine ⟨_, _, exec_decode w _, exec_decode w _, hout, fun hj => ?_, fun hj => ?_, rfl⟩
  · exact cycle_pc_reg_of_takesJump (s := { s with resetIn := true }) hj
  · have hreg := cycle_pc_reg_of_not_takesJump (s := { s with resetIn := true }) hj
    rw [hreg, hout]
    rfl

end Sys2Proof
end

section
/-! Steps and runs (42_cpu_cycle.md sections 1 and 3): the three things a step can do as rules, the delay slot, what every step
keeps, and what no step reads. -/

namespace Sys2Proof

namespace Machine

open Spec

section
variable {s : State}

theorem step_of_halted (hh : s.halted = true) : step s = .next s := by
  simp only [step, hh, stayHalted]

theorem step_of_no_fetch (hh : s.halted = false) (hf : romFetch s.rom s.pc.out = none) :
    step s = .next { s with halted := true } := by
  simp only [step, hh, fetch, hf]
  rfl

theorem step_of_fetch {w : Word} (hh : s.halted = false) (hf : romFetch s.rom s.pc.out = some w) :
    step s = exec (decode w) s := by
  simp only [step, hh, fetch, hf]

theorem step_cycle_of_fetch {w : Word} (hh : s.halted = false) (hf : romFetch s.rom s.pc.out = some w) :
    step s = .next (cycle (controlOf w) s) :=
  (step_of_fetch hh hf).trans (exec_decode w s)

end

/-- A run in progress of the program image r: not halted, and the reset input at the level 0 every run has (D4). -/
structure Running (r : Rom) (s : State) : Prop where
  rom : s.rom = r
  halted : s.halted = false
  resetIn : s.resetIn = false

section
variable {r : Rom} {s : State} (hs : Running r s)
include hs

/-- One cycle of a run: the run goes on, its fetch address is the pending one, and the next pending one is A or the increment. -/
theorem Running.step_of_fetch {w : Word} (hf : romFetch r s.pc.out = some w) :
    ∃ t, step s = .next t ∧ exec (decode w) s = .next t ∧ Running r t ∧ t.pc.out = s.pc.reg ∧
      (takesJump w s → t.pc.reg = s.a.reg) ∧ (¬ takesJump w s → t.pc.reg = s.pc.reg + 1#16) := by
  obtain ⟨rfl, hh, hreset⟩ := hs
  have hout := cycle_pc_out_of_no_reset (controlOf w) hreset
  exact ⟨_, step_cycle_of_fetch hh hf, exec_decode w s, ⟨rfl, hh, hreset⟩, hout, cycle_pc_reg_of_takesJump,
    hout ▸ cycle_pc_reg_of_not_takesJump⟩

theorem Running.step_of_no_fetch (hf : romFetch r s.pc.out = none) : step s = .next { s with halted := true } :=
  Machine.step_of_no_fetch hs.halted (hs.rom ▸ hf)

end

theorem exec_answers_next (i : Instr) (s : State) : ∃ t, exec i s = .next t :=
  (exec_is_cycle i s).imp' (cycle · s) fun _ h => h

theorem step_answers_next (s : State) : ∃ t, step s = .next t := by
  obtain ⟨-, he⟩ | ⟨-, -, he⟩ | ⟨w, -, -, he⟩ := step_cases s <;> exact ⟨_, he⟩

/-- Each of the three things a step can do keeps the invariant: the last by the data store's operation and the ALU's flags. -/
theorem step_keeps_inv {s t : State} (hs : Inv s) (hstep : step s = .next t) : Inv t := by
  obtain ⟨hram, hrom, hzr, hng⟩ := hs
  obtain ⟨-, he⟩ | ⟨-, -, he⟩ | ⟨w, -, -, he⟩ := step_cases s <;>
    obtain rfl := Host.Outcome.next.inj (he.symm.trans hstep)
  · exact ⟨hram, hrom, hzr, hng⟩
  · exact ⟨hram, hrom, hzr, hng⟩
  · exact ⟨process_mem_wf _ _ _ hram, hrom, rfl, rfl⟩

section
variable {s s' : State} (h : SameKept s s')
include h

/-- A cycle writes A.out, D.out and the flags before it reads them, so what it leaves depends on the kept fields alone (R33). -/
theorem cycle_sameKept (c : Control) : SameKept (cycle c s) (cycle c s') := by
  obtain ⟨ha, hd, halu, hpc, hram, hrom, hhalted, hreset⟩ := h
  constructor <;> simp [ha, hd, halu, hpc, hram, hrom, hhalted, hreset, registerProcess]

theorem fetch_sameKept : fetch s = fetch s' := by
  rw [fetch, fetch, h.rom, h.pc]

/-- A step from a state that agrees on the kept fields does the same of the three things, and agrees on them afterwards. -/
theorem step_sameKept {t : State} (hstep : step s = .next t) : ∃ t', step s' = .next t' ∧ SameKept t t' := by
  obtain ⟨hh, he⟩ | ⟨hh, hf, he⟩ | ⟨w, hh, hf, he⟩ := step_cases s <;>
    obtain rfl := Host.Outcome.next.inj (he.symm.trans hstep)
  · exact ⟨s', step_of_halted (h.halted ▸ hh), h⟩
  · rw [fetch_sameKept h] at hf
    exact ⟨_, step_of_no_fetch (h.halted ▸ hh) hf, { h with halted := rfl }⟩
  · rw [fetch_sameKept h] at hf
    exact ⟨_, step_cycle_of_fetch (h.halted ▸ hh) hf, cycle_sameKept h (controlOf w)⟩

end

end Machine

open Machine Spec

/-- Settles O7: the Word of a well-formed instruction decodes to it. -/
theorem stepExecutesTheFetchedInstruction : Obligations.StepExecutesTheFetchedInstruction := by
  refine ⟨fun s i hwf hh hf => ?_, fun s w => step_of_fetch⟩
  rw [step_of_fetch hh hf, encodeThenDecodeGivesTheInstruction i hwf]

/-- Settles O8: a run of any length by induction over its steps, each of which answers a next state. -/
theorem noInstructionFaultsOrIsRefused : Obligations.NoInstructionFaultsOrIsRefused := by
  refine ⟨exec_answers_next, step_answers_next, fun n => ?_⟩
  induction n with
  | zero => exact fun s => ⟨s, rfl⟩
  | succ n ih =>
    intro s
    obtain ⟨s', hstep⟩ := step_answers_next s
    obtain ⟨t, hrest⟩ := ih s'
    exact ⟨t, after_succ_iff.mpr ⟨s', hstep, hrest⟩⟩

/-- Settles O10: a halted state is its own next state, so a run from it stays there. -/
theorem absentFetchEndsTheRunAndChangesNothingElse : Obligations.AbsentFetchEndsTheRunAndChangesNothingElse := by
  refine ⟨fun s => step_of_no_fetch, fun n s t hs => ?_⟩
  induction n with
  | zero => exact after_zero_iff
  | succ n ih => simp [after_succ_iff, step_of_halted hs, ih]

/-- Settles O41: every step answers a next state, and each of the three kinds of step keeps the invariant. -/
theorem stepKeepsTheInvariant : Obligations.StepKeepsTheInvariant := by
  intro s hs
  obtain ⟨t, hstep⟩ := step_answers_next s
  exact ⟨t, hstep, step_keeps_inv hs hstep⟩

/-- Settles O42: every store is empty and the ALU latch holds the flags of its zero. -/
theorem resetMeetsTheInvariant : Obligations.ResetMeetsTheInvariant :=
  ⟨⟨rfl, rfl, rfl, rfl⟩, rfl, rfl, rfl, fun _ => rfl, fun _ => rfl, rfl⟩

/-- Settles O46: the agreement on the kept fields is carried along the run, step by step. -/
theorem outputsAndFlagsOfThePastAreNeverRead : Obligations.OutputsAndFlagsOfThePastAreNeverRead := by
  intro n
  induction n with
  | zero =>
    intro s s' t h hrun
    exact ⟨s', rfl, after_zero_iff.mp hrun ▸ h⟩
  | succ n ih =>
    intro s s' t h hrun
    obtain ⟨u, hstep, hrest⟩ := after_succ_iff.mp hrun
    obtain ⟨u', hstep', hu⟩ := step_sameKept h hstep
    obtain ⟨t', hrest', ht⟩ := ih u u' t hu hrest
    exact ⟨t', after_succ_iff.mpr ⟨u', hstep', hrest'⟩, ht⟩

/-- Settles O32: an executing step is the cycle of the fetched Word, and the other two leave the PC alone. -/
theorem programCounterAdvancesByOneOrJumps : Obligations.ProgramCounterAdvancesByOneOrJumps := by
  refine fun s => ⟨fun w hh hf => ?_, ?_⟩
  · refine ⟨_, step_cycle_of_fetch hh hf, cycle_pc_reg_of_takesJump, cycle_pc_reg_of_not_takesJump,
      fun hreset hj hlast => ?_⟩
    have hout : (cycle (controlOf w) s).pc.out = 0xFFFF#16 := by rw [cycle_pc_out_of_no_reset _ hreset, hlast]
    refine ⟨hout, ?_⟩
    rw [cycle_pc_reg_of_not_takesJump hj, hout]
    rfl
  · cases hh : s.halted with
    | true => exact fun _ => ⟨s, step_of_halted hh, rfl⟩
    | false =>
      rintro (hcontra | hf)
      · cases hcontra
      · exact ⟨_, step_of_no_fetch hh hf, rfl⟩

/-- Settles O31: PC.out of each cycle is PC.reg of the one before it, so a loaded target is fetched one instruction late. -/
theorem takenJumpHasOneDelaySlot : Obligations.TakenJumpHasOneDelaySlot := by
  intro s w hh hreset hf hj
  have hs : Running s.rom s := ⟨rfl, hh, hreset⟩
  obtain ⟨s1, hstep, hexec, hs1, hout, hload, -⟩ := hs.step_of_fetch hf
  refine ⟨s1, hstep, hexec, hout, fun w1 hslot => ?_, fun hnoSlot => hs1.step_of_no_fetch (hout ▸ hnoSlot)⟩
  obtain ⟨s2, hstep1, hexec1, hs2, hout1, hload1, -⟩ := hs1.step_of_fetch (hout ▸ hslot)
  rw [hload hj] at hout1
  refine ⟨s2, hstep1, hexec1, hout1, fun hnoTarget => hs2.step_of_no_fetch (hout1 ▸ hnoTarget), fun hj1 w2 htarget => ?_⟩
  obtain ⟨s3, hstep2, -, -, hout2, -, -⟩ := hs2.step_of_fetch (hout1 ▸ htarget)
  exact ⟨s3, hstep2, hout2.trans (hload1 hj1)⟩

end Sys2Proof
end

section
/-! The canonical form of the data store is unique (10_state.md section 5, log 6), and the ripple-carry adder is the modular sum
(40_datapath.md R78, R79). -/

namespace Sys2Proof

namespace Machine

/-- Two lists in rising order that list the same Word at every address are one list: their heads are their lowest addresses. -/
theorem eq_of_storeGet_eq {size low : Nat} {m m' : List WordCell} (hm : risingFrom size low m = true)
    (hm' : risingFrom size low m' = true) (hget : ∀ b, storeGet m b = storeGet m' b) : m = m' := by
  induction m generalizing low m' with
  | nil =>
    cases m' with
    | nil => rfl
    | cons p' rest' => simpa [storeGet] using hget p'.1
  | cons p rest ih =>
    obtain ⟨k, w⟩ := p
    cases m' with
    | nil => simpa [storeGet] using hget k
    | cons p' rest' =>
      obtain ⟨k', w'⟩ := p'
      simp only [risingFrom, Bool.and_eq_true, decide_eq_true_eq] at hm hm'
      have hrest : ∀ b, b ≤ k → storeGet rest b = none := fun b hb => storeGet_eq_none_of_lt hm.2 (Nat.lt_succ_of_le hb)
      have hrest' : ∀ b, b ≤ k' → storeGet rest' b = none := fun b hb => storeGet_eq_none_of_lt hm'.2 (Nat.lt_succ_of_le hb)
      simp only [storeGet] at hget
      obtain rfl : k = k' := by
        rcases Nat.lt_trichotomy k k' with hlt | heq | hlt
        · simpa [hrest' k hlt.le, hlt.ne'] using hget k
        · exact heq
        · simpa [hrest k' hlt.le, hlt.ne'] using hget k'
      obtain rfl : w = w' := by simpa using hget k
      rw [ih hm.2 hm'.2 fun b => ?_]
      by_cases hb : k = b
      · rw [hrest b hb.ge, hrest' b hb.ge]
      · simpa [hb] using hget b

theorem storeGet_ne_some_zero {m : List WordCell} (hm : noZero m = true) (b : Nat) : storeGet m b ≠ some 0#16 := by
  induction m with
  | nil => simp [storeGet]
  | cons p rest ih =>
    simp only [noZero, Bool.and_eq_true, bne_iff_ne] at hm
    simp only [storeGet]
    split
    · simpa using hm.1
    · exact ih hm.2

theorem storeGet_eq_none_of_le {size low b : Nat} {m : List WordCell} (hm : risingFrom size low m = true) (hb : size ≤ b) :
    storeGet m b = none := by
  induction m generalizing low with
  | nil => rfl
  | cons p rest ih =>
    simp only [risingFrom, Bool.and_eq_true, decide_eq_true_eq] at hm
    simp only [storeGet]
    rw [if_neg (by omega)]
    exact ih hm.2

/-- Without a listed ZERO, what is listed at an address is what is read there, ZERO standing for nothing. -/
theorem storeGet_eq_of_memRead_eq {m m' : Memory} (hm : noZero m = true) (hm' : noZero m' = true) {a : Word}
    (hread : memRead m a = memRead m' a) : storeGet m a.toNat = storeGet m' a.toNat := by
  have hne := storeGet_ne_some_zero hm a.toNat
  have hne' := storeGet_ne_some_zero hm' a.toNat
  simp only [memRead] at hread
  cases hget : storeGet m a.toNat <;> cases hget' : storeGet m' a.toNat <;> simp_all

/-- The sum bit of a stage and the carry into it are those of the modular sum's own carry chain. -/
theorem rippleLoop_eq (a b : Word) (n : Nat) (hn : n ≤ 16) : (rippleLoop a b n).1 = BitVec.carry n a b false ∧
    ∀ k, (rippleLoop a b n).2.getLsbD k = (decide (k < n) && (a + b).getLsbD k) := by
  induction n with
  | zero => exact ⟨(BitVec.carry_zero ..).symm, fun k => by simp [rippleLoop]⟩
  | succ n ih =>
    obtain ⟨hcarry, hsum⟩ := ih (by omega)
    constructor
    · simp only [rippleLoop, hcarry, BitVec.carry_succ, fullCarry, Bool.atLeastTwo]
    · intro k
      have hstage : fullSum (a.getLsbD n) (b.getLsbD n) (BitVec.carry n a b false) = (a + b).getLsbD n := by
        rw [BitVec.getLsbD_add hn, fullSum, Bool.xor_assoc]
      simp only [rippleLoop, hcarry, hstage]
      have hbit := Laws.getLsbD_bitAt ((a + b).getLsbD n) n k
      rw [bitAt] at hbit
      rw [BitVec.getLsbD_or, hsum, hbit]
      rcases Nat.lt_trichotomy k n with hk | rfl | hk
      · simp [hk, hk.ne, hk.trans n.lt_succ_self]
      · simp [Nat.lt_of_succ_le hn]
      · simp [hk.ne', hk.not_gt, Nat.not_lt.mpr hk]

theorem rippleAdder_eq_adder (a b : Word) : rippleAdder a b = adder a b := by
  refine BitVec.eq_of_getLsbD_eq fun k hk => ?_
  rw [rippleAdder, (rippleLoop_eq a b 16 le_rfl).2, decide_eq_true hk, Bool.true_and, adder]

end Machine

open Machine

/-- Settles O38: reading alike is listing alike below 65536, where every listed address is. -/
theorem memoriesWithEqualReadsAreEqual : Obligations.MemoriesWithEqualReadsAreEqual := by
  intro m m' hm hm' hread
  simp only [Memory.wf, Bool.and_eq_true] at hm hm'
  obtain ⟨hrise, hzero⟩ := hm
  obtain ⟨hrise', hzero'⟩ := hm'
  refine eq_of_storeGet_eq hrise hrise' fun b => ?_
  rcases Nat.lt_or_ge b 65536 with hb | hb
  · have hget := storeGet_eq_of_memRead_eq hzero hzero' (hread (BitVec.ofNat 16 b))
    rwa [BitVec.toNat_ofNat, Nat.mod_eq_of_lt hb] at hget
  · rw [storeGet_eq_none_of_le hrise hb, storeGet_eq_none_of_le hrise' hb]

/-- Settles O45: the loop invariant of the ripple-carry procedure at its sixteenth stage; the rest is the sum of bit vectors. -/
theorem rippleCarryAdderIsTheModularSum : Obligations.RippleCarryAdderIsTheModularSum :=
  fun a b => ⟨rippleAdder_eq_adder a b, BitVec.toNat_add a b, BitVec.toInt_add a b⟩

end Sys2Proof
end

section
/-! The host boundary (70_reset_and_hazards.md section 1, 60_exceptions.md R229): what a launch accepts and what it places. -/

namespace Sys2Proof

namespace Machine

/-- A list of numbers has bits exactly when each number is a bit. -/
theorem hostBits_eq_some_iff (h : HostWord) (bits : List Bool) : hostBits h = some bits ↔ h = bits.map Bool.toNat := by
  induction h generalizing bits with
  | nil => cases bits <;> simp [hostBits]
  | cons x rest ih =>
    match x with
    | 0 | 1 =>
      cases bits with
      | nil => simp [hostBits]
      | cons b bits => cases b <;> simp [hostBits, ih]
    | _ + 2 =>
      cases bits with
      | nil => simp [hostBits]
      | cons b bits => cases b <;> simp [hostBits]

theorem eq_map_toNat_iff (h : HostWord) : (∃ bits : List Bool, h = bits.map Bool.toNat) ↔ ∀ x ∈ h, x = 0 ∨ x = 1 := by
  constructor
  · rintro ⟨bits, rfl⟩ x hx
    obtain ⟨b, -, rfl⟩ := List.mem_map.mp hx
    cases b <;> simp
  · intro hbits
    refine ⟨h.map (· == 1), ?_⟩
    rw [List.map_map]
    refine (List.map_id h).symm.trans (List.map_congr_left fun x hx => ?_)
    rcases hbits x hx with rfl | rfl <;> rfl

/-- Accepted: sixteen elements, each a bit (R229 (a)). -/
theorem isSome_hostWord_iff (h : HostWord) : (hostWord h).isSome = true ↔ h.length = 16 ∧ ∀ x ∈ h, x = 0 ∨ x = 1 := by
  rw [← eq_map_toNat_iff, Option.isSome_iff_exists]
  simp only [← hostBits_eq_some_iff, hostWord]
  split
  next hlen => simp [hlen]
  next hlen => simp [hlen]

/-- One more digit at the end of a number's binary digits. -/
theorem bitsValue_append (acc : Nat) (bits : List Bool) (b : Bool) :
    bitsValue acc (bits ++ [b]) = 2 * bitsValue acc bits + b.toNat := by
  induction bits generalizing acc with
  | nil => rfl
  | cons c bits ih => exact ih _

/-- The first n digits of a Word, the most significant first, are those of u(w) without its last 16 - n. -/
theorem bitsValue_getMsbD (w : Word) (n : Nat) (hn : n ≤ 16) :
    bitsValue 0 ((List.range n).map w.getMsbD) = w.toNat / 2 ^ (16 - n) := by
  induction n with
  | zero => exact (Nat.div_eq_of_lt w.isLt).symm
  | succ n ih =>
    have hdigit : (w.getMsbD n).toNat = w.toNat / 2 ^ (15 - n) % 2 := by
      have hbit : w.getMsbD n = w.toNat.testBit (15 - n) := by
        simp [BitVec.getMsbD, BitVec.getLsbD, Nat.lt_of_succ_le hn]
      rw [hbit, Nat.toNat_testBit]
    have hshift : 16 - n = (15 - n) + 1 := by omega
    rw [List.range_succ, List.map_append, List.map_singleton, bitsValue_append, ih (by omega), hdigit, hshift, pow_succ,
      ← Nat.div_div_eq_div_mul, show 16 - (n + 1) = 15 - n by omega]
    omega

/-- A Word is the meaning of its own bits, the first the most significant (R13). -/
theorem hostWord_bits (w : Word) : hostWord ((List.range 16).map fun i => (w.getMsbD i).toNat) = some w := by
  have hbits : hostBits ((List.range 16).map fun i => (w.getMsbD i).toNat) = some ((List.range 16).map w.getMsbD) := by
    rw [hostBits_eq_some_iff, List.map_map]
    rfl
  have hvalue := bitsValue_getMsbD w 16 le_rfl
  simp only [Nat.sub_self, pow_zero, Nat.div_one] at hvalue
  rw [hostWord, if_pos (by simp), hbits, Option.map_some, hvalue, BitVec.ofNat_toNat, BitVec.setWidth_eq]

/-- A program is accepted exactly when each of its Words is. -/
theorem hostProgram_eq_some_iff (p : List HostWord) (ws : List Word) :
    hostProgram p = some ws ↔ p.map hostWord = ws.map some := by
  induction p generalizing ws with
  | nil => cases ws <;> simp [hostProgram]
  | cons h rest ih =>
    cases ws with
    | nil => simp [hostProgram, Option.bind_eq_some_iff]
    | cons w ws => simp [hostProgram, Option.bind_eq_some_iff, ← ih]

theorem hostProgram_eq_none_iff (p : List HostWord) : hostProgram p = none ↔ ∃ h ∈ p, hostWord h = none := by
  induction p with
  | nil => simp [hostProgram]
  | cons h rest ih =>
    cases hw : hostWord h with
    | none => simp [hostProgram, hw]
    | some w => simp [hostProgram, hw, ih]

/-- Seeds are accepted exactly when each address and each value is. -/
theorem hostSeeds_eq_some_iff (sd : List (HostWord × HostWord)) (sds : List (Word × Word)) : hostSeeds sd = some sds ↔
    sd.map (fun x => (hostWord x.1, hostWord x.2)) = sds.map (fun x => (some x.1, some x.2)) := by
  induction sd generalizing sds with
  | nil => cases sds <;> simp [hostSeeds]
  | cons x rest ih =>
    obtain ⟨a, v⟩ := x
    cases sds with
    | nil => simp [hostSeeds, Option.bind_eq_some_iff]
    | cons y sds => simp [hostSeeds, Option.bind_eq_some_iff, ← ih, Prod.ext_iff, and_assoc]

theorem hostSeeds_eq_none_iff (sd : List (HostWord × HostWord)) :
    hostSeeds sd = none ↔ ∃ x ∈ sd, hostWord x.1 = none ∨ hostWord x.2 = none := by
  induction sd with
  | nil => simp [hostSeeds]
  | cons x rest ih =>
    obtain ⟨a, v⟩ := x
    cases ha : hostWord a <;> cases hv : hostWord v <;> simp [hostSeeds, ha, hv, ih]

/-- A malformed Word anywhere in the program or the seeds refuses the launch under that name (R229, log 19). -/
theorem launch_of_malformed (l : AluLatch) {p : List HostWord} {sd : List (HostWord × HostWord)}
    (hbad : hostProgram p = none ∨ hostSeeds sd = none) : launch l p sd = .refused .malformedWord := by
  unfold launch
  rcases hbad with hp | hsd
  · simp [hp]
  · cases hostProgram p <;> simp [hsd]

theorem launch_of_wellFormed (l : AluLatch) {p : List HostWord} {sd : List (HostWord × HostWord)} {ws : List Word}
    {sds : List (Word × Word)} (hp : hostProgram p = some ws) (hsd : hostSeeds sd = some sds) :
    launch l p sd = if ws.length ≤ 65536 then .next (launchState l ws sds) else .refused .programTooLong := by
  simp only [launch, hp, hsd]
  rfl

end Machine

open Machine

/-- Settles O49: acceptance by the bits of a host Word, and each refusal by the branch of the operation that names it. -/
theorem hostLaunchAcceptsOrRefusesByName : Obligations.HostLaunchAcceptsOrRefusesByName := by
  refine ⟨isSome_hostWord_iff, hostWord_bits, fun l p sd => ⟨fun hbad => ?_, fun ws sds hp hsd => ?_⟩,
    fun s => ⟨rfl, rfl, fun k hk => ?_⟩, fun h a s ha => ?_, fun h s hh => ?_⟩
  · exact launch_of_malformed l (hbad.imp (hostProgram_eq_none_iff p).mpr (hostSeeds_eq_none_iff sd).mpr)
  · exact launch_of_wellFormed l ((hostProgram_eq_some_iff p ws).mpr hp) ((hostSeeds_eq_some_iff sd sds).mpr hsd)
  · obtain ⟨n, rfl⟩ := Nat.exists_eq_add_of_le' hk
    rfl
  · simp only [hostRead, ha]
  · simp only [hostRead, hh]

end Sys2Proof
end

section
/-! Launches and the first cycles of a run (70_reset_and_hazards.md sections 1 to 5). -/

namespace Sys2Proof

namespace Machine

open Spec

/-- The seed calls leave the contents that their writes, in order, leave. -/
theorem seedRam_mem (r : DataStore) (sd : List (Word × Word)) :
    (seedRam r sd).mem = sd.foldl (fun m p => memWrite m p.1 p.2) r.mem := by
  induction sd generalizing r with
  | nil => rfl
  | cons p rest ih => exact ih (r.process p.1 p.2 true)

/-- The last seed call leaves its value in the latch (D3). -/
theorem seedRam_out (r : DataStore) (sd : List (Word × Word)) :
    (seedRam r sd).out = (sd.getLast?.map Prod.snd).getD r.out := by
  induction sd generalizing r with
  | nil => rfl
  | cons p rest ih =>
    have hout : (r.process p.1 p.2 true).out = p.2 := by rw [process_eq]; rfl
    refine (ih (r.process p.1 p.2 true)).trans ?_
    cases rest with
    | nil => exact hout
    | cons q rest => simp [List.getLast?_cons]

section
variable (l : AluLatch) (p : List Word) (sd : List (Word × Word))

theorem romFetch_programImage (b : Word) : romFetch (programImage 0 p) b = p[b.toNat]? := by
  rw [romFetch, storeGet_programImage, if_pos (Nat.zero_le _), Nat.sub_zero]

theorem launchState_running : Running (programImage 0 p) (launchState l p sd) := ⟨rfl, rfl, rfl⟩

end

/-- The Word at address 0 of a nonempty program. -/
theorem romFetch_programImage_zero (w : Word) (rest : List Word) : romFetch (programImage 0 (w :: rest)) 0#16 = some w :=
  romFetch_programImage (w :: rest) 0#16

/-- The state after the start idiom 0xEA80, the C-instruction 0 without destinations and without a jump. -/
def afterStartIdiom (s : State) : State := cAfter 0#16 ⟨false, false, false⟩ ⟨false, false, false⟩ s

theorem exec_startIdiom (s : State) : exec (decode 0xEA80#16) s = .next (afterStartIdiom s) := by
  have hcode : ∀ x y, aluOut x y (aluCode 0b101010#6) = 0#16 := fun x y => by simp [aluOut_aluCode]
  obtain ⟨-, -, hexec, -, -⟩ := codeComputes_of_aluOut hcode
  exact hexec 3#2 ⟨false, false, false⟩ ⟨false, false, false⟩ s

/-- A Word without a jump: an A-instruction, or a C-instruction with the jump code 000. -/
theorem not_takesJump_of_noJump {w : Word} (hw : w.getMsbD 0 = false ∨ w.extractLsb' 0 3 = 0#3) (s : State) :
    ¬ takesJump w s := by
  rcases hw with hA | hcode
  · simp [takesJump, hA]
  · intro hj
    rw [takesJump_iff_of_code hj.1 hcode] at hj
    simp at hj

end Machine

open Machine Spec

/-- One more step at the end of a run. -/
theorem After.snoc {n : Nat} {s t u : State} (hrun : After n s t) (hstep : step t = .next u) : After (n + 1) s u := by
  induction n generalizing s with
  | zero =>
    obtain rfl := after_zero_iff.mp hrun
    exact after_succ_iff.mpr ⟨u, hstep, rfl⟩
  | succ n ih =>
    obtain ⟨s', hs', hrest⟩ := after_succ_iff.mp hrun
    exact after_succ_iff.mpr ⟨s', hs', ih hrest⟩

theorem startIdiom_after_two (l : AluLatch) (rest : List Word) (sd : List (Word × Word)) :
    After 2 (launchState l (0xEA80#16 :: rest) sd)
      (afterStartIdiom (afterStartIdiom (launchState l (0xEA80#16 :: rest) sd))) := by
  have hfetch := romFetch_programImage_zero 0xEA80#16 rest
  exact after_succ_iff.mpr ⟨_, (step_of_fetch rfl hfetch).trans (exec_startIdiom _),
    after_succ_iff.mpr ⟨_, (step_of_fetch rfl hfetch).trans (exec_startIdiom _), rfl⟩⟩

/-- Along a program without jumps, PC.out is k after k + 1 steps: one behind, since address 0 executes twice (D1, D14). -/
theorem straightLine_pc {p : List Word} (hne : 1 ≤ p.length) (hlen : p.length < 65536)
    (hp : ∀ w ∈ p, w.getMsbD 0 = false ∨ w.extractLsb' 0 3 = 0#3) {s : State} (hs : Running (programImage 0 p) s)
    (hpc : s.pc = ⟨0#16, 0#16⟩) (k : Nat) (hk : k ≤ p.length) : ∃ t, After (k + 1) s t ∧ Running (programImage 0 p) t ∧
      t.pc.out = BitVec.ofNat 16 k ∧ t.pc.reg = BitVec.ofNat 16 (k + 1) := by
  have hcycle : ∀ {u : State} {i : Nat}, Running (programImage 0 p) u → u.pc.out = BitVec.ofNat 16 i → i < p.length →
      ∃ t, step u = .next t ∧ Running (programImage 0 p) t ∧ t.pc.out = u.pc.reg ∧ t.pc.reg = u.pc.reg + 1#16 := by
    intro u i hu hout hi
    have hfetch : romFetch (programImage 0 p) u.pc.out = some p[i] := by
      rw [hout, romFetch_programImage, BitVec.toNat_ofNat, Nat.mod_eq_of_lt (hi.trans hlen), List.getElem?_eq_getElem hi]
    obtain ⟨t, hstep, -, ht, hout', -, hnext⟩ := hu.step_of_fetch hfetch
    exact ⟨t, hstep, ht, hout', hnext (not_takesJump_of_noJump (hp _ (List.getElem_mem hi)) u)⟩
  induction k with
  | zero =>
    obtain ⟨t, hstep, ht, hout, hreg⟩ := hcycle hs (i := 0) (by rw [hpc]) hne
    exact ⟨t, after_succ_iff.mpr ⟨t, hstep, rfl⟩, ht, by rw [hout, hpc], by rw [hreg, hpc]; rfl⟩
  | succ k ih =>
    obtain ⟨u, hrun, hu, hout, hreg⟩ := ih (Nat.le_of_succ_le hk)
    obtain ⟨t, hstep, ht, hout', hreg'⟩ := hcycle hu hout hk
    exact ⟨t, hrun.snoc hstep, ht, hout'.trans hreg, by rw [hreg', hreg, ← BitVec.ofNat_add]⟩

/-- Settles O48: the two stores by what loading and seeding leave in them, every other field as constructed. -/
theorem launchPlacesProgramAndSeeds : Obligations.LaunchPlacesProgramAndSeeds := by
  intro l p sd hlen
  have hmem : (launchState l p sd).ram.mem = sd.foldl (fun m x => memWrite m x.1 x.2) [] := seedRam_mem _ sd
  refine ⟨romFetch_programImage p, fun b => ?_, seedRam_out _ sd, rfl, rfl, rfl, rfl, rfl, rfl, fun hzr hng => ?_⟩
  · rw [hmem]
    exact memRead_foldl_memWrite [] sd b
  · have hrom : Rom.wf (programImage 0 p) = true := risingFrom_programImage Config.romSize 0 p ((Nat.zero_add _).trans_le hlen)
    exact ⟨seedRam_mem_wf _ sd rfl, hrom, hzr, hng⟩

/-- Settles O50: no address of the empty image is present. -/
theorem emptyProgramHaltsInTheLaunchState : Obligations.EmptyProgramHaltsInTheLaunchState :=
  fun l sd => (launchState_running l [] sd).step_of_no_fetch rfl

/-- Settles O47: the first cycle replaces the open latch and the second D.reg's input, so neither is left in the state. -/
theorem startIdiomForgetsTheOpenLaunchValues : Obligations.StartIdiomForgetsTheOpenLaunchValues := by
  intro l l' p sd hhead
  obtain ⟨rest, rfl⟩ := List.head?_eq_some_iff.mp hhead
  exact ⟨_, startIdiom_after_two l rest sd, startIdiom_after_two l' rest sd, rfl, rfl, rfl, rfl, rfl, rfl⟩

/-- Settles O51: both PC.out and PC.reg are ZERO at launch, so the first two fetches are at address 0. -/
theorem addressZeroExecutesTwiceAtLaunch : Obligations.AddressZeroExecutesTwiceAtLaunch := by
  intro l w rest sd
  have hfetch := romFetch_programImage_zero w rest
  obtain ⟨t1, hstep1, hexec1, ht1, hout1, hload, hincrement⟩ := (launchState_running l (w :: rest) sd).step_of_fetch hfetch
  have hzero : t1.pc.out = 0#16 := hout1
  obtain ⟨t2, hstep2, hexec2, -, hout2, -, -⟩ := ht1.step_of_fetch (hzero ▸ hfetch)
  exact ⟨t1, t2, hstep1, hexec1, hzero, hstep2, hexec2, fun hj => hout2.trans (hincrement hj), fun hj => hout2.trans (hload hj)⟩

/-- Settles O52: after n + 1 steps PC.out is n, the first absent address. -/
theorem straightLineProgramHaltsAfterNPlusTwoCycles : Obligations.StraightLineProgramHaltsAfterNPlusTwoCycles := by
  intro l p sd hne hlen hp
  obtain ⟨t, hrun, ht, hout, -⟩ := straightLine_pc hne hlen hp (launchState_running l p sd) rfl p.length le_rfl
  have hnoFetch : romFetch (programImage 0 p) t.pc.out = none := by
    rw [hout, romFetch_programImage, BitVec.toNat_ofNat, Nat.mod_eq_of_lt hlen, List.getElem?_eq_none le_rfl]
  exact ⟨t, hrun, by simp [Ended, ht.halted], hout, hrun.snoc (ht.step_of_no_fetch hnoFetch)⟩

end Sys2Proof
end
